-- ==== Sys2Proof/Word.lean ====
section
/-! DEFINITION. The widths of the block's words and the word types built on them (spec/00_scope.md rules R6, R7, R9,
R12; spec/10_state.md rule R20). Bit 0 is the least significant bit and every word is unsigned. -/

namespace Sys2Proof

/-- `TSW`, the width in bits of `now`, `last_a`, `last_b` (00_scope.md R7, the spec's decision D4). -/
abbrev Config.TSW : Nat := 32

/-- `SYNC_STAGES`, flip-flops per input synchronizer (00_scope.md R7, the spec's decision D3). -/
abbrev Config.SYNC_STAGES : Nat := 2

/-- `CW`, bits per colour channel (00_scope.md R6). -/
abbrev Config.CW : Nat := 8

/-- `NCELL`, cells of a glyph pattern, 5 by 5 (00_scope.md R6). -/
abbrev Config.NCELL : Nat := 25

/-- `NIND`, indicator output lines (00_scope.md R6). -/
abbrev Config.NIND : Nat := 3

/-- A timestamp: `now` and the two debounce records (10_state.md R22). -/
abbrev Timestamp := BitVec Config.TSW

/-- The flip-flops of one input synchronizer, `SYNC_STAGES` one-bit registers in series: bit 0 is the first flop, which
samples the raw line (10_state.md R21). 1 = line high = released. -/
abbrev SyncChain := BitVec Config.SYNC_STAGES

/-- A speed code: the speed's value in binary, `2'b00` reserved (10_state.md R24, 30_encoding.md R78). -/
abbrev SpeedCode := BitVec 2

/-- A frame index, 0..3: it indexes both tables and is the digit shown (30_encoding.md R80). -/
abbrev FrameIndex := BitVec 2

/-- The cells of a glyph pattern, cell `i` in bit `i` (20_memory.md R54). -/
abbrev Pattern := BitVec Config.NCELL

/-- The colour bus `{r, g, b}`, `r` most significant (20_memory.md R54, 30_encoding.md R83). -/
abbrev ColorBus := BitVec (Config.CW + Config.CW + Config.CW)

/-- The indicator register `{r_on, g_on, b_on}` (10_state.md R30, 20_memory.md R54). -/
abbrev LedLines := BitVec Config.NIND

end Sys2Proof
end

