-- ==== Sys2Proof/Config.lean ====
section
/-! DEFINITION. What is fixed for the block: the named constants of spec/00_scope.md rules R6 and R7, the open
parameters of rule R8 as constants without a body, the input vector of spec/30_encoding.md rule R70, and the free
input vectors the environment supplies where no input has been scheduled. -/

namespace Sys2Proof

/-- `ColorTriple`: "`{r,g,b}` each an 8-bit intensity" (00_scope.md R13). -/
structure ColorTriple where
  r : BitVec Config.CW
  g : BitVec Config.CW
  b : BitVec Config.CW
  deriving DecidableEq, Repr, Inhabited

/-- `I_k`, the input vector sampled at one rising edge of `clk` (00_scope.md R10): every input port of
30_encoding.md R70 but the clock itself. The lines `btn_a_n`, `btn_b_n` carry the raw level: `false` = low = pressed. -/
structure InputVector where
  /-- `rst`, synchronous, active high. -/
  rst : Bool
  /-- `btn_a_n`, raw line of input A (toggle), active low. -/
  btnA : Bool
  /-- `btn_b_n`, raw line of input B (cycle), active low. -/
  btnB : Bool
  /-- `now`, the monotonic timestamp in milliseconds. -/
  now : Timestamp
  /-- `mtx_done`, the Matrix Renderer reports render complete. -/
  mtxDone : Bool
  /-- `pnl_done`, the Status Panel Renderer reports render complete. -/
  pnlDone : Bool
  deriving DecidableEq, Repr, Inhabited

/-- The kinds of reset (00_scope.md R7). -/
inductive ResetKind where
  /-- The state takes its reset values at the rising edge that ends a cycle with reset. -/
  | synchronous
  /-- The state shows its reset values in the cycle with reset already. -/
  | asynchronous
  deriving DecidableEq, Repr

namespace Config

/-- `NCH`, number of input channels (00_scope.md R6). -/
def NCH : Nat := 2

/-- `WINDOW`, the debounce window in units of `now` (00_scope.md R6). -/
def WINDOW : Nat := 250

/-- `SPEED_MIN`, lowest speed (00_scope.md R6). -/
def SPEED_MIN : SpeedCode := 1

/-- `SPEED_MAX`, highest speed; wraps to `SPEED_MIN` (00_scope.md R6). -/
def SPEED_MAX : SpeedCode := 3

/-- `NGLYPH`, glyph patterns, for digits 0 to 3 (00_scope.md R6). -/
def NGLYPH : Nat := 4

/-- `NCOLOR`, colour triples, for off and speeds 1 to 3 (00_scope.md R6). -/
def NCOLOR : Nat := 4

/-- `LAST_RESET`, reset value of `last_a` and `last_b` (00_scope.md R7, the spec's decision D5). -/
def LAST_RESET : Timestamp := 0

/-- The time unit of `now`, in milliseconds (00_scope.md R7, the spec's decision D4): with it `WINDOW` means 250 ms. -/
def NOW_UNIT_MS : Nat := 1

/-- Reset polarity: the level of `rst` that asks for reset (00_scope.md R7, the spec's decision D2). -/
def RST_ACTIVE : Bool := true

/-- Reset kind (00_scope.md R7, the spec's decision D2). -/
def RST_KIND : ResetKind := .synchronous

/-- The phase code of POLL (00_scope.md R7, 30_encoding.md R79, the spec's decision D15). -/
def PHASE_POLL : BitVec 2 := 0b00#2

/-- The phase code of MTX. -/
def PHASE_MTX : BitVec 2 := 0b01#2

/-- The phase code of IND. -/
def PHASE_IND : BitVec 2 := 0b10#2

/-- The phase code of PNL. -/
def PHASE_PNL : BitVec 2 := 0b11#2

/-- `COLOR[0..3]`, an OPEN parameter (00_scope.md R8, 20_memory.md R51, the spec's decision D9): a constant without a
body, indexed by the frame index. Log entry 3. -/
opaque COLOR : FrameIndex → ColorTriple

/-- `GLYPH[0..3]`, an OPEN parameter (00_scope.md R8, 20_memory.md R51, the spec's decision D10). Log entry 3. -/
opaque GLYPH : FrameIndex → Pattern

/-- The width of the Matrix Renderer's packed pixel value, not stated by the spec (00_scope.md R8, N8). Log entry 4. -/
opaque PACK_WIDTH : Nat

/-- `PACK`, an OPEN parameter of the Matrix Renderer, outside the block (00_scope.md R8, decision D11). Log entry 4. -/
opaque PACK : ColorBus → BitVec PACK_WIDTH

/-- FREE VALUE. The input vector of a cycle for which the state holds no scheduled input: the environment's choice
(00_scope.md R15, R16), so nothing constrains it. Applied to the cycle number. Log entry 2. -/
opaque freeInput : Nat → InputVector

end Config

end Sys2Proof
end

