-- ==== Sys2Proof/Syntax.lean ====
section
/-! DEFINITION. The fifteen operations of spec/30_encoding.md rule R86 and spec/opcode_table.json, the three select
words that choose them (rules R84, R85), the two channels and the four phases. -/

namespace Sys2Proof

/-- One of the two debounce filters (00_scope.md R14): A is the toggle input, B the cycle input. -/
inductive Channel where
  | a
  | b
  deriving DecidableEq, Repr

/-- The dispatch sequencer's position (10_state.md R28). -/
inductive Phase where
  /-- The block samples events. -/
  | poll
  /-- Matrix render requested, waiting for `mtx_done`. -/
  | mtx
  /-- The indicator register is being updated. -/
  | ind
  /-- Panel render requested, waiting for `pnl_done`. -/
  | pnl
  deriving DecidableEq, Repr

/-- The block's operations, its analogue of instructions (00_scope.md R17): one constructor per row of
spec/opcode_table.json. A `DB` operation is taken by one channel, decoded from that channel's own select word. -/
inductive Instr where
  /-- RESET: all state to reset values (70_reset_and_hazards.md R230). -/
  | reset
  /-- IDLE: poll cycle, no event (41_fsm_transitions.md R134). -/
  | idle
  /-- TOGGLE: event on A only (41_fsm_transitions.md R135). -/
  | toggle
  /-- CYCLE: event on B only (41_fsm_transitions.md R136). -/
  | cycle
  /-- TOGGLE_CYCLE: events on A and B in one poll cycle (41_fsm_transitions.md R137). -/
  | toggleCycle
  /-- MTX_HOLD: waiting for the matrix (42_dispatch.md R162). -/
  | mtxHold
  /-- MTX_DONE: matrix complete, go to IND (42_dispatch.md R163). -/
  | mtxDone
  /-- IND_UPDATE: load `led`, go to PNL (42_dispatch.md R164). -/
  | indUpdate
  /-- PNL_HOLD: waiting for the panel (42_dispatch.md R165). -/
  | pnlHold
  /-- PNL_DONE: panel complete, go to POLL (42_dispatch.md R166). -/
  | pnlDone
  /-- SYNC_SHIFT: shift both synchronizers (40_debounce.md R101). -/
  | syncShift
  /-- DB_ACCEPT: emit event, record timestamp (40_debounce.md R107). -/
  | dbAccept (x : Channel)
  /-- DB_REJECT_WINDOW: pressed, window not elapsed (40_debounce.md R108). -/
  | dbRejectWindow (x : Channel)
  /-- DB_REJECT_RELEASED: not pressed (40_debounce.md R109). -/
  | dbRejectReleased (x : Channel)
  /-- DB_STALLED: not a poll cycle (40_debounce.md R110). -/
  | dbStalled (x : Channel)
  deriving DecidableEq, Repr

/-- The bits that choose an operation, by format (30_encoding.md R84, R85). A select word's format, and for `DB` its
channel, are known from which word it is: no bit of the word carries them. -/
inductive SelectWord where
  /-- Format `SEQ`: `sel = rst, phase, ev_a, ev_b, mtx_done, pnl_done` from bit 6 down. -/
  | seq (sel : BitVec 7)
  /-- Format `SY`: `rst`. -/
  | sy (rst : BitVec 1)
  /-- Format `DB`: `dsel_x = poll_en, pressed_x, open_x` from bit 2 down. -/
  | db (x : Channel) (dsel : BitVec 3)
  deriving DecidableEq, Repr

end Sys2Proof
end

