-- ==== Sys2Proof/WellFormed.lean ====
section
/-! DEFINITION. Which operations and which select words are well formed. -/

namespace Sys2Proof

/-- Every operation is well formed: its only operand is a channel, and "there is no illegal operation"
(30_encoding.md R89). -/
def Instr.wf : Instr → Bool
  | .reset | .idle | .toggle | .cycle | .toggleCycle => true
  | .mtxHold | .mtxDone | .indUpdate | .pnlHold | .pnlDone => true
  | .syncShift => true
  | .dbAccept _ | .dbRejectWindow _ | .dbRejectReleased _ | .dbStalled _ => true

/-- The select words that can occur. A `SEQ` word with `rst = 1` or `phase != 00` has no event bit set
(30_encoding.md R88); the `SY` word is `0` whenever a `SY` operation is performed (R86); every `DB` word occurs. -/
def SelectWord.wf : SelectWord → Bool
  | .seq w => !(w.getLsbD 6 || w.getLsbD 5 || w.getLsbD 4) || !(w.getLsbD 3 || w.getLsbD 2)
  | .sy w => w == 0
  | .db _ _ => true

end Sys2Proof
end

