-- ==== Sys2Proof/Decode.lean ====
section
/-! DEFINITION. From select words to operations and back (spec/30_encoding.md rules R79, R84 to R89 and
spec/opcode_table.json): the decoder, total, rejecting by name; the encoder, from the table's patterns; and the
reading of a bare number as the opcode table numbers a row's bits. -/

namespace Sys2Proof

/-- Why a word decodes to no operation. -/
inductive Reject where
  /-- The `SY` select word is 1: with `rst = 1` no synchronizer operation is performed (30_encoding.md R86). -/
  | noSyncOperation
  deriving DecidableEq, Repr

/-- The phase code (30_encoding.md R79). -/
def Phase.code : Phase → BitVec 2
  | .poll => Config.PHASE_POLL
  | .mtx => Config.PHASE_MTX
  | .ind => Config.PHASE_IND
  | .pnl => Config.PHASE_PNL

/-- The phase a code stands for; all four codes are used (10_state.md R28, 30_encoding.md R89). -/
def Phase.ofCode (c : BitVec 2) : Phase :=
  if c = Config.PHASE_POLL then .poll else if c = Config.PHASE_MTX then .mtx else if c = Config.PHASE_IND then .ind
  else .pnl

/-- The `SEQ` decoder: exactly one operation for each of the 128 values of `sel` (30_encoding.md R84, R86). -/
def decodeSeq (w : BitVec 7) : Instr :=
  if w.getLsbD 6 then .reset
  else match Phase.ofCode (w.extractLsb' 4 2) with
    | .poll =>
      match w.getLsbD 3, w.getLsbD 2 with
      | false, false => .idle
      | true, false => .toggle
      | false, true => .cycle
      | true, true => .toggleCycle
    | .mtx => if w.getLsbD 1 then .mtxDone else .mtxHold
    | .ind => .indUpdate
    | .pnl => if w.getLsbD 0 then .pnlDone else .pnlHold

/-- The `DB` decoder of channel `x`: exactly one operation for each of the 8 values of `dsel_x` (30_encoding.md R85,
R86). -/
def decodeDb (x : Channel) (w : BitVec 3) : Instr :=
  match w.getLsbD 2, w.getLsbD 1, w.getLsbD 0 with
  | false, _, _ => .dbStalled x
  | true, false, _ => .dbRejectReleased x
  | true, true, false => .dbRejectWindow x
  | true, true, true => .dbAccept x

/-- The `SY` decoder (30_encoding.md R85, R86). -/
def decodeSy (w : BitVec 1) : Except Reject Instr :=
  if w = 0 then .ok .syncShift else .error .noSyncOperation

/-- The decoder, on a select word of any format. -/
def decode : SelectWord → Except Reject Instr
  | .seq w => .ok (decodeSeq w)
  | .sy w => decodeSy w
  | .db x w => .ok (decodeDb x w)

/-- The encoder: the operation's select pattern of 30_encoding.md R86 with every don't-care bit 0, which is the row's
`match` word in spec/opcode_table.json. -/
def encode : Instr → SelectWord
  | .reset => .seq 0b1000000#7
  | .idle => .seq 0b0000000#7
  | .toggle => .seq 0b0001000#7
  | .cycle => .seq 0b0000100#7
  | .toggleCycle => .seq 0b0001100#7
  | .mtxHold => .seq 0b0010000#7
  | .mtxDone => .seq 0b0010010#7
  | .indUpdate => .seq 0b0100000#7
  | .pnlHold => .seq 0b0110000#7
  | .pnlDone => .seq 0b0110001#7
  | .syncShift => .sy 0b0#1
  | .dbAccept x => .db x 0b111#3
  | .dbRejectWindow x => .db x 0b110#3
  | .dbRejectReleased x => .db x 0b100#3
  | .dbStalled x => .db x 0b000#3

/-- The bits an operation's pattern fixes: the row's `mask` word in spec/opcode_table.json. -/
def careBits : Instr → BitVec 7
  | .reset => 0x40#7
  | .idle => 0x7C#7
  | .toggle => 0x7C#7
  | .cycle => 0x7C#7
  | .toggleCycle => 0x7C#7
  | .mtxHold => 0x72#7
  | .mtxDone => 0x72#7
  | .indUpdate => 0x70#7
  | .pnlHold => 0x71#7
  | .pnlDone => 0x71#7
  | .syncShift => 0x01#7
  | .dbAccept _ => 0x07#7
  | .dbRejectWindow _ => 0x07#7
  | .dbRejectReleased _ => 0x06#7
  | .dbStalled _ => 0x04#7

/-- The encoder with the don't-care bits taken from `fill`: as `fill` ranges over all values, every select word of the
operation's pattern and no other. -/
def encodeWith (i : Instr) (fill : BitVec 7) : SelectWord :=
  let free := fill &&& ~~~careBits i
  match encode i with
  | .seq w => .seq (w ||| free)
  | .sy w => .sy (w ||| free.setWidth 1)
  | .db x w => .db x (w ||| free.setWidth 3)

/-- The select word that the number `w` stands for, its bits numbered as spec/opcode_table.json numbers a row's bits.
The number of bits tells the format: 1 is `SY`, 3 is `DB`, 7 is `SEQ`. A number padded to a whole byte tells no format
(the three formats use the same bits), so a byte is read as `sel`, but for the two bytes that are a `DB` row's `match`
word and no `SEQ` row's, which are read as `dsel`. A `DB` word names no channel: it is read as channel A's. DESIGN
CHOICE, log entry 7. The block's own step never calls this function. -/
def tableSelect (nbits w : Nat) : Option SelectWord :=
  if nbits = 1 then
    if w < 2 then some (.sy (BitVec.ofNat 1 w)) else none
  else if nbits = 3 then
    if w < 8 then some (.db .a (BitVec.ofNat 3 w)) else none
  else if nbits = 8 ∧ (w = 6 ∨ w = 7) then
    some (.db .a (BitVec.ofNat 3 w))
  else if 7 ≤ nbits ∧ w < 128 then
    some (.seq (BitVec.ofNat 7 w))
  else none

/-- The operation the decoder reads from the number `w` as the opcode table numbers a row's bits. -/
def decodeTableWord (nbits w : Nat) : Option Instr :=
  match tableSelect nbits w with
  | none => none
  | some sw =>
    match decode sw with
    | .ok i => some i
    | .error _ => none

end Sys2Proof
end

