-- ==== Sys2Proof/Machine/State.lean ====
section
/-! DEFINITION. The block's state (spec/10_state.md rule R20), the reasons a step can stop, and the state after reset
(rule R42). -/

namespace Sys2Proof.Machine

/-- The complete state of the block, "the following twelve elements and nothing else" (10_state.md R20), and after them
the two fields of the model's own that hold the environment's input vectors. -/
structure State where
  /-- `sa1`, `sa2`, channel A's synchronizer flops: `sa1` is bit 0, `sa2` bit 1 (10_state.md R21; `State.sa1`,
  `State.sa2`). -/
  syncA : SyncChain
  /-- `sb1`, `sb2`, channel B's synchronizer flops: `sb1` is bit 0, `sb2` bit 1 (10_state.md R21; `State.sb1`,
  `State.sb2`). -/
  syncB : SyncChain
  /-- `last_a`, the timestamp of channel A's last accepted event (10_state.md R22). -/
  lastA : Timestamp
  /-- `last_b`, the timestamp of channel B's last accepted event (10_state.md R22). -/
  lastB : Timestamp
  /-- `power`, true = the device is on (10_state.md R23). -/
  power : Bool
  /-- `speed`, the selected speed (10_state.md R24). -/
  speed : SpeedCode
  /-- `phase`, the dispatch sequencer's position (10_state.md R28). -/
  phase : Phase
  /-- `fb_power`, the snapshot buffer's power (10_state.md R29). -/
  fbPower : Bool
  /-- `fb_speed`, the snapshot buffer's speed (10_state.md R29). -/
  fbSpeed : SpeedCode
  /-- `led`, the indicator register, `led[2]` = r, `led[1]` = g, `led[0]` = b (10_state.md R30). -/
  led : LedLines
  /-- The MODEL's own field: the input vectors of the coming cycles, this cycle's first. Log entry 1. -/
  inputs : List InputVector
  /-- The MODEL's own field: the number of this cycle (00_scope.md R10), which the free input vectors are applied to.
  Log entry 2. -/
  cycle : Nat
  deriving DecidableEq, Repr

/-- The faults of the block: none. "No operation of `opcode_table.json` can fault; there is no cause code, no
faulting-address register and no fault bit" (60_exceptions.md R200). -/
inductive Fault where
  deriving DecidableEq, Repr

/-- The reasons the model gives an operation no meaning. -/
inductive Refusal where
  /-- Raised by an arm of `exec` whose operation has no meaning in the model yet. No arm raises it. Safe: a run that
  meets it stops. -/
  | notModelled (mnemonic : String)
  deriving DecidableEq, Repr

/-- The machine right after reset: every element at the value of 10_state.md R42. No input is scheduled and the cycle
counts from 0 (the model's own fields, log entry 2). -/
def State.reset : State where
  syncA := BitVec.allOnes Config.SYNC_STAGES
  syncB := BitVec.allOnes Config.SYNC_STAGES
  lastA := Config.LAST_RESET
  lastB := Config.LAST_RESET
  power := false
  speed := Config.SPEED_MIN
  phase := .poll
  fbPower := false
  fbSpeed := Config.SPEED_MIN
  led := 0b000#3
  inputs := []
  cycle := 0

end Sys2Proof.Machine
end

