-- ==== Sys2Proof/Machine/Operands.lean ====
section
/-! DEFINITION. The operands of a step (spec/30_encoding.md rules R80 to R83): this cycle's input vector, what a channel
reads, elapsed time, the speed successor, the frame index, the table reads and the indicator function. -/

namespace Sys2Proof.Machine

/-- `I_k`, the input vector of this cycle: the head of the queue, or, where none is scheduled, the free vector of this
cycle (log entries 1 and 2). -/
def State.input (s : State) : InputVector :=
  match s.inputs with
  | [] => Config.freeInput s.cycle
  | i :: _ => i

/-- Reset is asked for in this cycle: `rst` is at its active level (00_scope.md R7, 30_encoding.md R71). -/
def State.resetActive (s : State) : Bool := s.input.rst == Config.RST_ACTIVE

/-- `sa1`, first synchronizer flop of channel A (10_state.md R21). -/
def State.sa1 (s : State) : Bool := s.syncA.getLsbD 0

/-- `sa2`, second synchronizer flop of channel A (10_state.md R21). -/
def State.sa2 (s : State) : Bool := s.syncA.getLsbD 1

/-- `sb1`, first synchronizer flop of channel B (10_state.md R21). -/
def State.sb1 (s : State) : Bool := s.syncB.getLsbD 0

/-- `sb2`, second synchronizer flop of channel B (10_state.md R21). -/
def State.sb2 (s : State) : Bool := s.syncB.getLsbD 1

/-- A synchronizer after one shift: the first flop takes the line, every other flop the one before it (10_state.md R21,
40_debounce.md R101). -/
def shiftIn (chain : SyncChain) (line : Bool) : SyncChain := chain.shiftConcat line

/-- The synchronized level of channel `x`'s line: its last flop, `sx2` (10_state.md R21). -/
def State.level (x : Channel) (s : State) : Bool :=
  match x with
  | .a => s.syncA.getLsbD (Config.SYNC_STAGES - 1)
  | .b => s.syncB.getLsbD (Config.SYNC_STAGES - 1)

/-- `last_x`, the debounce record of channel `x` (10_state.md R22). -/
def State.last (x : Channel) (s : State) : Timestamp :=
  match x with
  | .a => s.lastA
  | .b => s.lastB

/-- `el_x = (now - last_x) mod 2^TSW`, the unsigned difference that wraps (40_debounce.md R103, R106). -/
def elapsed (now last : Timestamp) : Timestamp := now - last

/-- The window test `el >u WINDOW`, strict, on the full width (40_debounce.md R104, R106; 90_conflicts.md C3). -/
def exceedsWindow (el : Timestamp) : Bool := decide (Config.WINDOW < el.toNat)

/-- The speed successor: `speed + 1`, wrapping from `SPEED_MAX` to `SPEED_MIN` (41_fsm_transitions.md R131). On the
reserved code it gives `2'b01`, as the spec says (30_encoding.md R87; log entry 5). -/
def nxt (v : SpeedCode) : SpeedCode :=
  if v = Config.SPEED_MAX then Config.SPEED_MIN else v + 1

/-- The frame index `idx(p, v) = p ? v : 2'b00` (30_encoding.md R80, 42_dispatch.md R171). -/
def idx (p : Bool) (v : SpeedCode) : FrameIndex := if p then v else 0b00#2

/-- The frame index of the snapshot buffer, the `k` of 42_dispatch.md R171: every table read uses it and nothing else
(20_memory.md R51). -/
def State.frameIndex (s : State) : FrameIndex := idx s.fbPower s.fbSpeed

/-- The indicator function `ind(c)`, "nonzero ⇒ on" per channel (42_dispatch.md R175). -/
def ind (c : ColorTriple) : LedLines :=
  BitVec.ofBool (c.r != 0) ++ BitVec.ofBool (c.g != 0) ++ BitVec.ofBool (c.b != 0)

/-- The colour bus `{r, g, b}` of a triple (20_memory.md R54, 42_dispatch.md R173). -/
def colorBus (c : ColorTriple) : ColorBus := c.r ++ c.g ++ c.b

end Sys2Proof.Machine
end

