-- ==== Sys2Proof/Machine/Flags.lean ====
section
/-! DEFINITION. The condition signals, the block's flags: combinational, none of them stored (spec/10_state.md rules R36
to R38). -/

namespace Sys2Proof.Machine

/-- `pressed_x = !sx2` (40_debounce.md R102). -/
def State.pressed (x : Channel) (s : State) : Bool := !s.level x

/-- `open_x`: more than `WINDOW` has elapsed since channel `x`'s last accepted event (40_debounce.md R103, R104). -/
def State.windowOpen (x : Channel) (s : State) : Bool :=
  exceedsWindow (elapsed s.input.now (s.last x))

/-- `poll_en = (phase = POLL) & !rst` (40_debounce.md R105). -/
def State.pollEn (s : State) : Bool := decide (s.phase = .poll) && !s.resetActive

/-- `ev_x = poll_en & pressed_x & open_x` (40_debounce.md R105). -/
def State.ev (x : Channel) (s : State) : Bool := s.pollEn && s.pressed x && s.windowOpen x

/-- `busy = (phase != POLL)` (10_state.md R38). -/
def State.busy (s : State) : Bool := decide (s.phase ≠ .poll)

/-- `power_n = power ^ ev_a` (41_fsm_transitions.md R132). -/
def State.powerN (s : State) : Bool := s.power ^^ s.ev .a

/-- `speed_n = ev_b ? nxt(speed) : speed` (41_fsm_transitions.md R132). -/
def State.speedN (s : State) : SpeedCode := if s.ev .b then nxt s.speed else s.speed

/-- `render = ev_a | (ev_b & power_n)` (41_fsm_transitions.md R133). -/
def State.render (s : State) : Bool := s.ev .a || (s.ev .b && s.powerN)

end Sys2Proof.Machine
end

