-- ==== Sys2Proof/Machine/Ops.lean ====
section
/-! DEFINITION. The named operations over the state that the meanings share. The block has no memory (spec/20_memory.md
rule R50), so there is none over memory; it takes no exception (spec/60_exceptions.md rules R200, R207, R208), so there
is none for entering or leaving one. -/

namespace Sys2Proof.Machine

/-- `power <- p ; speed <- v`: the write of the FSM's state register. -/
def State.setFan (s : State) (p : Bool) (v : SpeedCode) : State := { s with power := p, speed := v }

/-- Frame capture `fb_power <- p ; fb_speed <- v ; phase <- MTX`, all in one edge (42_dispatch.md R161, 20_memory.md
R56). -/
def State.capture (s : State) (p : Bool) (v : SpeedCode) : State :=
  { s with fbPower := p, fbSpeed := v, phase := .mtx }

/-- `phase <- p`. -/
def State.setPhase (s : State) (p : Phase) : State := { s with phase := p }

/-- `led <- v`. -/
def State.setLed (s : State) (v : LedLines) : State := { s with led := v }

/-- `last_x <- t` (40_debounce.md R107): only the record of channel `x` (R100). -/
def State.setLast (x : Channel) (s : State) (t : Timestamp) : State :=
  match x with
  | .a => { s with lastA := t }
  | .b => { s with lastB := t }

/-- Both synchronizers shift (40_debounce.md R101). -/
def State.shiftSync (s : State) : State :=
  { s with syncA := shiftIn s.syncA s.input.btnA, syncB := shiftIn s.syncB s.input.btnB }

/-- Every state element of 10_state.md R20 takes its reset value of R42 (70_reset_and_hazards.md R230). The input queue
and the cycle number are the environment's and stay (log entry 1). -/
def State.resetElements (s : State) : State :=
  { State.reset with inputs := s.inputs, cycle := s.cycle }

/-- The clock edge ends cycle `k`: the next input vector comes up (00_scope.md R10; log entry 1). -/
def State.advance (s : State) : State := { s with inputs := s.inputs.tail, cycle := s.cycle + 1 }

end Sys2Proof.Machine
end

