-- ==== Sys2Proof/Machine/Fetch.lean ====
section
/-! DEFINITION. What takes the place of fetching (spec/30_encoding.md rules R84 to R86): the select words assembled from
the state and this cycle's input, the operations they choose, and the arrangement of a state whose next step takes a
given select word. -/

namespace Sys2Proof.Machine

/-- `sel = rst, phase, ev_a, ev_b, mtx_done, pnl_done` from bit 6 down (30_encoding.md R84). -/
def State.sel (s : State) : BitVec 7 :=
  BitVec.ofBool s.resetActive ++ s.phase.code ++ BitVec.ofBool (s.ev .a) ++ BitVec.ofBool (s.ev .b)
    ++ BitVec.ofBool s.input.mtxDone ++ BitVec.ofBool s.input.pnlDone

/-- `dsel_x = poll_en, pressed_x, open_x` from bit 2 down (30_encoding.md R85). -/
def State.dsel (x : Channel) (s : State) : BitVec 3 :=
  BitVec.ofBool s.pollEn ++ BitVec.ofBool (s.pressed x) ++ BitVec.ofBool (s.windowOpen x)

/-- The synchronizer's select word, `rst` (30_encoding.md R85). -/
def State.ssel (s : State) : BitVec 1 := BitVec.ofBool s.resetActive

/-- The select words that choose the operations of this step: with `rst = 1` the sequencer's alone, whose operation is
RESET "and nothing else"; otherwise the synchronizer's, both channels' and the sequencer's (30_encoding.md R86). All are
assembled from this state, before any operation has written. -/
def State.selectWords (s : State) : List SelectWord :=
  if s.resetActive then [.seq s.sel]
  else [.sy s.ssel, .db .a (s.dsel .a), .db .b (s.dsel .b), .seq s.sel]

/-- The operations a list of select words stands for; a word that decodes to no operation performs none. -/
def decodeAll : List SelectWord → List Instr
  | [] => []
  | w :: ws =>
    match decode w with
    | .ok i => i :: decodeAll ws
    | .error _ => decodeAll ws

/-- The operations of this step (30_encoding.md R86). -/
def State.operations (s : State) : List Instr := decodeAll s.selectWords

/-- The input vector `withFetchWord` starts from where none is scheduled: both lines released, no reset, nothing done,
and a timestamp that finds the window open after reset (log entry 8). -/
def quietInput : InputVector where
  rst := !Config.RST_ACTIVE
  btnA := true
  btnB := true
  now := Config.LAST_RESET + BitVec.ofNat Config.TSW (Config.WINDOW + 1)
  mtxDone := false
  pnlDone := false

/-- This cycle's scheduled input vector, or the quiet one. -/
def State.scheduledInput (s : State) : InputVector :=
  match s.inputs with
  | [] => quietInput
  | i :: _ => i

/-- The state with `i` as this cycle's input vector. -/
def State.withInput (s : State) (i : InputVector) : State := { s with inputs := i :: s.inputs.tail }

/-- The level of `rst` that asks for reset, or does not. -/
def rstLevel (active : Bool) : Bool := active == Config.RST_ACTIVE

/-- A synchronizer whose last flop holds `level`, the others as they were. -/
def withLastFlop (chain : SyncChain) (level : Bool) : SyncChain :=
  let last := BitVec.twoPow Config.SYNC_STAGES (Config.SYNC_STAGES - 1)
  if level then chain ||| last else chain &&& ~~~last

/-- The state with channel `x`'s synchronized level set to read pressed or released. -/
def State.withPressed (x : Channel) (s : State) (pressed : Bool) : State :=
  match x with
  | .a => { s with syncA := withLastFlop s.syncA (!pressed) }
  | .b => { s with syncB := withLastFlop s.syncB (!pressed) }

/-- The state with channel `x`'s record set so that the window is open, or closed, at the timestamp `now`. -/
def State.withWindow (x : Channel) (s : State) (now : Timestamp) (isOpen : Bool) : State :=
  s.setLast x (if isOpen then now - BitVec.ofNat Config.TSW (Config.WINDOW + 1) else now)

/-- The state in a poll cycle, or, where the word has `poll_en = 0`, in the phase it is in, MTX in place of POLL. -/
def State.withPollEn (s : State) (pollEn : Bool) : State :=
  { s with phase := if pollEn then Phase.poll else if s.phase = .poll then Phase.mtx else s.phase }

/-- The state in which channel `x` has, or has not, an event at the timestamp `now` in a poll cycle. Without an event
the record stays. -/
def State.withEvent (x : Channel) (s : State) (now : Timestamp) (event : Bool) : State :=
  if event then (s.withPressed x true).withWindow x now true else s.withPressed x false

/-- The state whose next step assembles the given select word and so takes its operation: everything the word's bits
come from is set (this cycle's `rst` and done lines, `phase`, the synchronized levels, the records), and nothing else.
For a `SEQ` word that cannot occur (30_encoding.md R88) the event bits, which its operation ignores, are not. Log entry
8. -/
def State.arrange (s : State) (w : SelectWord) : State :=
  let i := s.scheduledInput
  match w with
  | .seq v =>
    ((({ s with phase := Phase.ofCode (v.extractLsb' 4 2) }).withEvent .a i.now (v.getLsbD 3)).withEvent .b i.now
      (v.getLsbD 2)).withInput
      { i with rst := rstLevel (v.getLsbD 6), mtxDone := v.getLsbD 1, pnlDone := v.getLsbD 0 }
  | .sy v => s.withInput { i with rst := rstLevel (v.getLsbD 0) }
  | .db x v =>
    (((s.withPollEn (v.getLsbD 2)).withPressed x (v.getLsbD 1)).withWindow x i.now (v.getLsbD 0)).withInput
      { i with rst := rstLevel false }

end Sys2Proof.Machine
end

