-- ==== Sys2Proof/Machine/Debounce.lean ====
section
/-! DEFINITION. The debounce filter's operations (spec/40_debounce.md): SYNC_SHIFT and the four channel operations. Each
writes what rule R31 of spec/10_state.md gives its sub-block to write and nothing else. -/

namespace Sys2Proof.Machine

/-- SYNC_SHIFT: `sa1 <- btn_a_n ; sa2 <- sa1 ; sb1 <- btn_b_n ; sb2 <- sb1` (40_debounce.md R101). -/
def execSyncShift (s : State) : Host.Outcome State Fault Refusal := .next s.shiftSync

/-- DB_ACCEPT on channel `x`: `last_x <- now` (40_debounce.md R107). The pulse `ev_x` is the output `State.ev` of this
cycle. -/
def execDbAccept (x : Channel) (s : State) : Host.Outcome State Fault Refusal :=
  .next (s.setLast x s.input.now)

/-- DB_REJECT_WINDOW on channel `x`: `last_x` unchanged; a rejected press does not refresh the record (40_debounce.md
R108). -/
def execDbRejectWindow (_x : Channel) (s : State) : Host.Outcome State Fault Refusal := .next s

/-- DB_REJECT_RELEASED on channel `x`: `last_x` unchanged; a release is recorded nowhere (40_debounce.md R109). -/
def execDbRejectReleased (_x : Channel) (s : State) : Host.Outcome State Fault Refusal := .next s

/-- DB_STALLED on channel `x`: `last_x` unchanged (40_debounce.md R110). -/
def execDbStalled (_x : Channel) (s : State) : Host.Outcome State Fault Refusal := .next s

end Sys2Proof.Machine
end

