-- ==== Sys2Proof/Machine/DispatchSequence.lean ====
section
/-! DEFINITION. The dispatch sequencer's operations (spec/42_dispatch.md rules R162 to R166): they deliver one frame in
the order matrix, indicator, panel. -/

namespace Sys2Proof.Machine

/-- MTX_HOLD: nothing changes; `phase` stays MTX (42_dispatch.md R162). -/
def execMtxHold (s : State) : Host.Outcome State Fault Refusal := .next s

/-- MTX_DONE: `phase <- IND` (42_dispatch.md R163). -/
def execMtxDone (s : State) : Host.Outcome State Fault Refusal := .next (s.setPhase .ind)

/-- IND_UPDATE: `led <- ind(COLOR[idx(fb_power, fb_speed)]) ; phase <- PNL`; the colour of the captured frame, never of
`power` and `speed` (42_dispatch.md R164). -/
def execIndUpdate (s : State) : Host.Outcome State Fault Refusal :=
  .next ((s.setLed (ind (Config.COLOR s.frameIndex))).setPhase .pnl)

/-- PNL_HOLD: nothing changes; `phase` stays PNL (42_dispatch.md R165). -/
def execPnlHold (s : State) : Host.Outcome State Fault Refusal := .next s

/-- PNL_DONE: `phase <- POLL` (42_dispatch.md R166). -/
def execPnlDone (s : State) : Host.Outcome State Fault Refusal := .next (s.setPhase .poll)

end Sys2Proof.Machine
end

