-- ==== Sys2Proof/Machine/ResetOperation.lean ====
section
/-! DEFINITION. The operation RESET (spec/70_reset_and_hazards.md rule R230). -/

namespace Sys2Proof.Machine

/-- RESET: every state element takes its reset value, whatever the state and the other inputs
(70_reset_and_hazards.md R230). -/
def execReset (s : State) : Host.Outcome State Fault Refusal := .next s.resetElements

end Sys2Proof.Machine
end

