-- ==== Sys2Proof/Machine/Transitions.lean ====
section
/-! DEFINITION. The fan state machine's poll-cycle operations (spec/41_fsm_transitions.md rules R134 to R137), each from
its own pseudocode. The write `last_x <- now` in those rules is DB_ACCEPT's ("by DB_ACCEPT on channel x", R135, R136; R137
leaves the writer unsaid) and stands in Debounce.lean: each register has one writer (spec/10_state.md rules R22, R31; log
entry 6). -/

namespace Sys2Proof.Machine

/-- IDLE: `power`, `speed`, `phase`, `fb_power`, `fb_speed`, `led` all unchanged (41_fsm_transitions.md R134). -/
def execIdle (s : State) : Host.Outcome State Fault Refusal := .next s

/-- TOGGLE: `power <- !power`, `speed` unchanged, frame capture of the new state (41_fsm_transitions.md R135). -/
def execToggle (s : State) : Host.Outcome State Fault Refusal :=
  .next ((s.setFan (!s.power) s.speed).capture (!s.power) s.speed)

/-- CYCLE: `speed <- nxt(speed)`, `power` unchanged; a frame capture only if `power = 1` (41_fsm_transitions.md R136). -/
def execCycle (s : State) : Host.Outcome State Fault Refusal :=
  if s.power then
    .next ((s.setFan s.power (nxt s.speed)).capture true (nxt s.speed))
  else
    .next (s.setFan s.power (nxt s.speed))

/-- TOGGLE_CYCLE: both changes, one frame capture of the state after both (41_fsm_transitions.md R137). -/
def execToggleCycle (s : State) : Host.Outcome State Fault Refusal :=
  .next ((s.setFan (!s.power) (nxt s.speed)).capture (!s.power) (nxt s.speed))

end Sys2Proof.Machine
end

