-- ==== Sys2Proof/Machine/Dispatch.lean ====
section
/-! DEFINITION. The meaning of each operation of spec/30_encoding.md rule R86: one arm per constructor. -/

namespace Sys2Proof.Machine

def exec (i : Instr) (s : State) : Host.Outcome State Fault Refusal :=
  match i with
  | .reset => Sys2Proof.Machine.execReset s
  | .idle => Sys2Proof.Machine.execIdle s
  | .toggle => Sys2Proof.Machine.execToggle s
  | .cycle => Sys2Proof.Machine.execCycle s
  | .toggleCycle => Sys2Proof.Machine.execToggleCycle s
  | .mtxHold => Sys2Proof.Machine.execMtxHold s
  | .mtxDone => Sys2Proof.Machine.execMtxDone s
  | .indUpdate => Sys2Proof.Machine.execIndUpdate s
  | .pnlHold => Sys2Proof.Machine.execPnlHold s
  | .pnlDone => Sys2Proof.Machine.execPnlDone s
  | .syncShift => Sys2Proof.Machine.execSyncShift s
  | .dbAccept x => Sys2Proof.Machine.execDbAccept x s
  | .dbRejectWindow x => Sys2Proof.Machine.execDbRejectWindow x s
  | .dbRejectReleased x => Sys2Proof.Machine.execDbRejectReleased x s
  | .dbStalled x => Sys2Proof.Machine.execDbStalled x s

end Sys2Proof.Machine
end

