-- ==== Sys2Proof/Machine/Perform.lean ====
section
/-! DEFINITION. Performing the operations of one step one after the other. Each operation of a step writes elements that
no other operation of the step reads or writes (spec/10_state.md rule R31), so the order shows nowhere and all
assignments of the step happen together, as spec/00_scope.md rule R10 says (log entry 6). -/

namespace Sys2Proof.Machine

/-- Perform the operations in turn, stopping at one that stops. -/
def perform : List Instr → State → Host.Outcome State Fault Refusal
  | [], s => .next s
  | i :: is, s =>
    match exec i s with
    | .next t => perform is t
    | .fault f => .fault f
    | .refused r => .refused r

/-- The clock edge that ends the step: the next input vector comes up. -/
def endCycle : Host.Outcome State Fault Refusal → Host.Outcome State Fault Refusal
  | .next t => .next t.advance
  | .fault f => .fault f
  | .refused r => .refused r

end Sys2Proof.Machine
end

