-- ==== Sys2Proof/Machine/Step.lean ====
section
/-! DEFINITION. One step of the block: `S_{k+1} = step(S_k, I_k)` (spec/00_scope.md rule R10). -/

namespace Sys2Proof.Machine

/-- One clock cycle: the operations this cycle's select words choose are performed (30_encoding.md R86), and the next
input vector comes up. -/
def step (s : State) : Host.Outcome State Fault Refusal := endCycle (perform s.operations s)

/-- The state whose next step takes the operation that the number `w` stands for, its bits numbered as the opcode table
numbers them (`tableSelect`). The block fetches nothing: log entry 8 says what this arranges. -/
def State.withFetchWord (s : State) (nbits w : Nat) : State :=
  match tableSelect nbits w with
  | none => s
  | some sw => s.arrange sw

end Sys2Proof.Machine
end

