-- ==== Sys2Proof/Machine/Outputs.lean ====
section
/-! DEFINITION. The block's output ports (spec/30_encoding.md rule R70) and the pure functions that drive them
(rules R74 to R77, spec/42_dispatch.md rules R171 to R176); and, outside the block, what the Matrix Renderer's contract
makes of them (spec/42_dispatch.md rule R174). -/

namespace Sys2Proof.Machine

/-- The output ports of one cycle (30_encoding.md R70). All but `evA` and `evB` are Moore outputs. -/
structure Outputs where
  mtxReq : Bool
  mtxGlyph : FrameIndex
  mtxPattern : Pattern
  mtxColor : ColorBus
  ledR : Bool
  ledG : Bool
  ledB : Bool
  pnlReq : Bool
  pnlPower : Bool
  pnlSpeed : BitVec 2
  power : Bool
  speed : SpeedCode
  busy : Bool
  evA : Bool
  evB : Bool
  deriving DecidableEq, Repr

/-- `mtx_req = (phase = MTX)` (30_encoding.md R74). -/
def State.mtxReq (s : State) : Bool := decide (s.phase = .mtx)

/-- `pnl_req = (phase = PNL)` (30_encoding.md R76). -/
def State.pnlReq (s : State) : Bool := decide (s.phase = .pnl)

/-- `pnl_speed = fb_power ? fb_speed : 2'b00`: "speed 0" when off (30_encoding.md R76, 42_dispatch.md R176). -/
def State.pnlSpeed (s : State) : BitVec 2 := if s.fbPower then s.fbSpeed else 0b00#2

/-- The state that the Moore outputs of this cycle show: the state itself, since reset is synchronous. Under the other
kind of reset a cycle with reset would show the reset values already (00_scope.md R7, the spec's decision D2; log entry
15). -/
def State.visible (s : State) : State :=
  match Config.RST_KIND with
  | .synchronous => s
  | .asynchronous => if s.resetActive then s.resetElements else s

/-- The output vector of this cycle. The payloads are functions of the snapshot buffer alone and valid at all times
(30_encoding.md R74 to R76); `ev_a`, `ev_b` depend on this cycle's input too (R77). -/
def State.outputs (s : State) : Outputs where
  mtxReq := s.visible.mtxReq
  mtxGlyph := s.visible.frameIndex
  mtxPattern := Config.GLYPH s.visible.frameIndex
  mtxColor := colorBus (Config.COLOR s.visible.frameIndex)
  ledR := s.visible.led.getLsbD 2
  ledG := s.visible.led.getLsbD 1
  ledB := s.visible.led.getLsbD 0
  pnlReq := s.visible.pnlReq
  pnlPower := s.visible.fbPower
  pnlSpeed := s.visible.pnlSpeed
  power := s.visible.power
  speed := s.visible.speed
  busy := s.visible.busy
  evA := s.ev .a
  evB := s.ev .b

/-- The Matrix Renderer's buffer, outside the block: `px[i] = mtx_pattern[i] ? PACK(mtx_color) : 0` for `i` in 0..24
(42_dispatch.md R174; log entry 4). -/
def Outputs.pixelBuffer (o : Outputs) : List (BitVec Config.PACK_WIDTH) :=
  (List.range Config.NCELL).map fun i => if o.mtxPattern.getLsbD i then Config.PACK o.mtxColor else 0

end Sys2Proof.Machine
end

