-- ==== Sys2Proof/Safety.lean ====
section
/-! DEFINITION. The terms the statements use: runs, counts over runs, the invariant of spec/10_state.md rule R35, the
next-state equations the spec gives element by element, and the obligation the spec puts on the time base
(spec/60_exceptions.md rule R212). -/

namespace Sys2Proof.Machine

/-! ## Runs -/

/-- The state after one step; the state itself where the step stops. -/
def nextState (s : State) : State :=
  match step s with
  | .next t => t
  | .fault _ => s
  | .refused _ => s

/-- The state `k` steps on: the `S_{j+k}` of a run in which `s` is `S_j` (00_scope.md R10). -/
def stateAt : Nat → State → State
  | 0, s => s
  | k + 1, s => stateAt k (nextState s)

/-- In how many of the first `n` cycles of the run from `s` a condition signal is 1. -/
def countCycles (p : State → Bool) : Nat → State → Nat
  | 0, _ => 0
  | n + 1, s => (p s).toNat + countCycles p n (nextState s)

/-- The frame indices of the renders that start in the first `n` cycles of the run from `s`, in order: one for each
cycle whose operation captures a frame (42_dispatch.md R170), the frame being the one captured. -/
def framesRendered : Nat → State → List FrameIndex
  | 0, _ => []
  | n + 1, s => (bif s.render then [(nextState s).frameIndex] else []) ++ framesRendered n (nextState s)

/-- The first `n` cycles of the run from `s` are without reset. -/
def NoReset (n : Nat) (s : State) : Prop := ∀ k < n, (stateAt k s).input.rst = false

/-- The observation of the first `n` cycles of the run from `s`: the sequence of its output vectors (00_scope.md R19). -/
def outputsOf : Nat → State → List Outputs
  | 0, _ => []
  | n + 1, s => s.outputs :: outputsOf n (nextState s)

/-- The two states agree in all twelve elements of 10_state.md R20; the model's own fields may differ. -/
def SameElements (s t : State) : Prop :=
  (s.syncA = t.syncA ∧ s.syncB = t.syncB) ∧ (s.lastA = t.lastA ∧ s.lastB = t.lastB) ∧
    (s.power = t.power ∧ s.speed = t.speed ∧ s.phase = t.phase) ∧
    (s.fbPower = t.fbPower ∧ s.fbSpeed = t.fbSpeed) ∧ s.led = t.led

/-! ## The invariant of the reachable states (10_state.md R35) -/

/-- A speed code that stands for a speed: not the reserved code `2'b00` (10_state.md R24, R25). -/
abbrev SpeedLegal (v : SpeedCode) : Prop := v ≠ 0b00#2

/-- The lamp agrees with the frame in the snapshot buffer. -/
abbrev State.lampAgrees (s : State) : Prop := s.led = ind (Config.COLOR s.frameIndex)

/-- 10_state.md R35, clause by clause. -/
structure Inv (s : State) : Prop where
  /-- (a) `fb_power = power`. -/
  fbPower_eq : s.fbPower = s.power
  /-- (b) If `power = 1` then `fb_speed = speed`. -/
  fbSpeed_on : s.power = true → s.fbSpeed = s.speed
  /-- (c) If `phase != POLL` then `fb_speed = speed` (and `fb_power = power` by (a)). -/
  fbSpeed_busy : s.phase ≠ .poll → s.fbSpeed = s.speed
  /-- (d) `speed` is never `2'b00`. -/
  speed_legal : SpeedLegal s.speed
  /-- (d) `fb_speed` is never `2'b00`. -/
  fbSpeed_legal : SpeedLegal s.fbSpeed
  /-- (e) In PNL the lamp shows the frame of the snapshot buffer. -/
  lamp_pnl : s.phase = .pnl → s.lampAgrees
  /-- (e) In POLL too, but for the dark lamp and the off frame before the first render. -/
  lamp_poll : s.phase = .poll → s.lampAgrees ∨ (s.led = 0b000#3 ∧ s.fbPower = false)

/-! ## The next state, element by element -/

/-- The phase after this cycle: POLL to MTX on a render, MTX to IND on `mtx_done`, IND to PNL always, PNL to POLL on
`pnl_done`, "and in no other way" (10_state.md R28). -/
def State.phaseN (s : State) : Phase :=
  match s.phase with
  | .poll => if s.render then .mtx else .poll
  | .mtx => if s.input.mtxDone then .ind else .mtx
  | .ind => .pnl
  | .pnl => if s.input.pnlDone then .poll else .pnl

/-- The next state by the equations the spec gives for each element, all right-hand sides on `S_k` and `I_k`
(00_scope.md R10): 40_debounce.md R101, R107; 41_fsm_transitions.md R132, R133; 42_dispatch.md R161, R164; 10_state.md
R28, R42. It mentions no operation and no select word. -/
def registerTransfer (s : State) : State :=
  if s.input.rst then { State.reset with inputs := s.inputs.tail, cycle := s.cycle + 1 }
  else
    { syncA := shiftIn s.syncA s.input.btnA
      syncB := shiftIn s.syncB s.input.btnB
      lastA := if s.ev .a then s.input.now else s.lastA
      lastB := if s.ev .b then s.input.now else s.lastB
      power := s.powerN
      speed := s.speedN
      phase := s.phaseN
      fbPower := if s.render then s.powerN else s.fbPower
      fbSpeed := if s.render then s.speedN else s.fbSpeed
      led := if s.phase = .ind then ind (Config.COLOR s.frameIndex) else s.led
      inputs := s.inputs.tail
      cycle := s.cycle + 1 }

/-- A cell of the table of 41_fsm_transitions.md R138: in state `(p, v)` with events `(a, b)` the next state is `(p', v')`,
and a render of frame `k` starts, or none. -/
def PollRow (p : Bool) (v : SpeedCode) (a b : Bool) (p' : Bool) (v' : SpeedCode) (k : Option FrameIndex) : Prop :=
  ∀ s : State, s.phase = .poll → s.input.rst = false → s.power = p → s.speed = v → s.ev .a = a → s.ev .b = b →
    (nextState s).power = p' ∧ (nextState s).speed = v' ∧
      match k with
      | some k => (nextState s).phase = .mtx ∧ (nextState s).frameIndex = k
      | none => (nextState s).phase = .poll ∧ (nextState s).fbPower = s.fbPower ∧ (nextState s).fbSpeed = s.fbSpeed

/-! ## The environment's obligation on the time base -/

/-- `now` in the run from `s`, over its first `n` cycles, reads a clock `τ`, in milliseconds, that never runs backwards;
the `TSW` bits of `now` wrap, `τ` does not (60_exceptions.md R212 to R214). -/
def ClockMonotone (τ : Nat → Nat) (n : Nat) (s : State) : Prop :=
  (∀ k < n, (stateAt k s).input.now = BitVec.ofNat Config.TSW (τ k / Config.NOW_UNIT_MS)) ∧ ∀ j k, j ≤ k → k < n → τ j ≤ τ k

end Sys2Proof.Machine
end

