-- ==== Sys2Proof/Certificates/Slice0/Obligations.lean ====
section
/-! DEFINITION. The statements for the provers. Each docstring names the rule of spec/ it formalises. Where a rule carries
the spec's own decision D<n>, the docstring names it: the behaviour is the spec's, not the model's. -/

open Sys2Proof Sys2Proof.Machine

/-! ## Reset -/

/-- 10_state.md R42 (the spec's decisions D3, D5, D15, D23): the reset state, element by element. The fields `inputs` and
`cycle` are the model's own and not spoken of. -/
def Obligations.ResetStateHasTheSpecValues : Prop :=
  State.reset.sa1 = true ∧ State.reset.sa2 = true ∧ State.reset.sb1 = true ∧ State.reset.sb2 = true ∧
    State.reset.lastA = 0#32 ∧ State.reset.lastB = 0#32 ∧
    State.reset.power = false ∧ State.reset.speed = 0b01#2 ∧ State.reset.phase.code = 0b00#2 ∧
    State.reset.fbPower = false ∧ State.reset.fbSpeed = 0b01#2 ∧ State.reset.led = 0b000#3

/-- 70_reset_and_hazards.md R232, R233: the outputs of the reset state, whatever the environment presents in its first
cycle. R233 is the spec's decision D23 (log entry 12). -/
def Obligations.ResetOutputsRequestNothing : Prop :=
  ∀ i : InputVector, (State.reset.withInput i).outputs =
    { mtxReq := false, mtxGlyph := 0b00#2, mtxPattern := Config.GLYPH 0b00#2
      mtxColor := colorBus (Config.COLOR 0b00#2), ledR := false, ledG := false, ledB := false
      pnlReq := false, pnlPower := false, pnlSpeed := 0b00#2, power := false, speed := 0b01#2, busy := false
      evA := false, evB := false }

/-- 10_state.md R35: the invariant holds in the reset state. -/
def Obligations.ResetStateMeetsInvariant : Prop := Inv State.reset

/-- 70_reset_and_hazards.md R230, the operation: RESET completes from every state, with every element at its reset
value. The fields `inputs` and `cycle`, the model's own (log entries 1, 2), stay. The values are those of 10_state.md
R42; the operation is the spec's decisions D2, D27, the values its D3, D5, D15, D23 (log entry 12). -/
def Obligations.ResetOperationRestoresEveryElement : Prop :=
  ∀ s : State, exec .reset s = .next
    { syncA := 0b11#2, syncB := 0b11#2, lastA := 0#32, lastB := 0#32
      power := false, speed := 0b01#2, phase := .poll, fbPower := false, fbSpeed := 0b01#2, led := 0b000#3
      inputs := s.inputs, cycle := s.cycle }

/-- 70_reset_and_hazards.md R230, the step (the spec's decisions D2, D27): a cycle with `rst = 1` takes RESET and
nothing else, whatever the state and the other inputs; no line is sampled and no event is seen. The fields `inputs` and
`cycle` are the model's own (log entries 1, 2). The values are those of 10_state.md R42 (decisions D3, D5, D15, D23,
log entry 12); that reset goes before every other input is 60_exceptions.md R205 (decisions D27, D29). -/
def Obligations.StepUnderResetIsResetAlone : Prop :=
  ∀ s : State, s.input.rst = true →
    step s = .next
      { syncA := 0b11#2, syncB := 0b11#2, lastA := 0#32, lastB := 0#32
        power := false, speed := 0b01#2, phase := .poll, fbPower := false, fbSpeed := 0b01#2, led := 0b000#3
        inputs := s.inputs.tail, cycle := s.cycle + 1 } ∧
      s.ev .a = false ∧ s.ev .b = false

/-! ## The operations, one by one: each completes from every state, with this result and nothing else changed -/

/-- 41_fsm_transitions.md R134, 42_dispatch.md R162, R165, 40_debounce.md R108, R109, R110: the six operations that
write nothing of their own. In particular a rejected press does not refresh the record. That nothing else is written
either rests on 10_state.md R22, R31 and log entry 6: an operation writes its own sub-block's registers only, and
`last_x` is DB_ACCEPT's; R165 is the spec's decision D24 (log entry 12). -/
def Obligations.WaitingAndRejectingOperationsWriteNothing : Prop :=
  ∀ s : State, exec .idle s = .next s ∧ exec .mtxHold s = .next s ∧ exec .pnlHold s = .next s ∧
    ∀ x : Channel, exec (.dbRejectWindow x) s = .next s ∧ exec (.dbRejectReleased x) s = .next s ∧
      exec (.dbStalled x) s = .next s

/-- 40_debounce.md R101, 10_state.md R21, the operation (the spec's decisions D3, D26): both channels' flops shift at
once, and nothing but the flops is written. In a synchronizer of `SYNC_STAGES` flops a shift gives the first flop the
line and every other flop the one before it. Vectors of `SYNC_STAGES` flops are log entry 15, the decisions log entry
12. -/
def Obligations.SyncShiftShiftsBothSynchronizers : Prop :=
  (∀ s : State, exec .syncShift s =
      .next { s with syncA := shiftIn s.syncA s.input.btnA, syncB := shiftIn s.syncB s.input.btnB } ∧
    ∀ t : State, exec .syncShift s = .next t →
      t.sa1 = s.input.btnA ∧ t.sa2 = s.sa1 ∧ t.sb1 = s.input.btnB ∧ t.sb2 = s.sb1) ∧
  ∀ (c : SyncChain) (line : Bool), (shiftIn c line).getLsbD 0 = line ∧
    ∀ i, i + 1 < Config.SYNC_STAGES → (shiftIn c line).getLsbD (i + 1) = c.getLsbD i

/-- 40_debounce.md R107, R100, the operation: the record of the accepting channel takes `now`, the other's stays. That
nothing else is written rests on 10_state.md R31 and log entry 6. -/
def Obligations.DbAcceptRecordsTheTimestamp : Prop :=
  ∀ s : State, exec (.dbAccept .a) s = .next { s with lastA := s.input.now } ∧
    exec (.dbAccept .b) s = .next { s with lastB := s.input.now }

/-- 41_fsm_transitions.md R135, the operation: `power` inverted, `speed` kept, the new state captured. The capture is
42_dispatch.md R161. That nothing else is written rests on 10_state.md R22, R31 and log entry 6: an operation writes
its own sub-block's registers only, and `last_x` is DB_ACCEPT's to write, as R135 says. -/
def Obligations.ToggleInvertsPowerAndCaptures : Prop :=
  ∀ s : State, exec .toggle s = .next { s with power := !s.power, fbPower := !s.power, fbSpeed := s.speed, phase := .mtx }

/-- 41_fsm_transitions.md R136, the operation: `speed` advanced; captured only when on. That nothing else is written
rests on 10_state.md R22, R31 and log entry 6: an operation writes its own sub-block's registers only, and `last_x` is
DB_ACCEPT's to write, as R136 says. -/
def Obligations.CycleAdvancesSpeedAndCapturesOnlyWhenOn : Prop :=
  ∀ s : State,
    (s.power = true → exec .cycle s =
      .next { s with speed := nxt s.speed, fbPower := true, fbSpeed := nxt s.speed, phase := .mtx }) ∧
    (s.power = false → exec .cycle s = .next { s with speed := nxt s.speed })

/-- 41_fsm_transitions.md R137, the operation (the spec's decision D22): both changes and one capture. That nothing
else is written, `last_a` and `last_b` among it, does not follow from R137, which lists `last_a <- now ; last_b <- now`
for the whole step; it rests on 40_debounce.md R107, 10_state.md R22, R31 and log entry 6 (DEDUCED): `last_x` is
written by DB_ACCEPT. -/
def Obligations.ToggleCycleMakesBothChangesAndOneCapture : Prop :=
  ∀ s : State, exec .toggleCycle s = .next
    { s with power := !s.power, speed := nxt s.speed, fbPower := !s.power, fbSpeed := nxt s.speed, phase := .mtx }

/-- 42_dispatch.md R163, R166, the operations (the spec's decisions D24, D29): only `phase` is written. That nothing
else is written rests on 10_state.md R31 and log entry 6; the decisions are log entry 12. -/
def Obligations.DoneOperationsAdvanceThePhaseOnly : Prop :=
  ∀ s : State, exec .mtxDone s = .next { s with phase := .ind } ∧ exec .pnlDone s = .next { s with phase := .poll }

/-- 42_dispatch.md R164, the operation: `led` loaded from the colour of the captured frame, whatever `power` and
`speed` are. The index and the function are 42_dispatch.md R171, R175. That nothing else is written rests on
10_state.md R31 and log entry 6. -/
def Obligations.IndUpdateLoadsTheLampFromTheFrame : Prop :=
  ∀ s : State,
    (s.fbPower = true → exec .indUpdate s = .next { s with led := ind (Config.COLOR s.fbSpeed), phase := .pnl }) ∧
    (s.fbPower = false → exec .indUpdate s = .next { s with led := ind (Config.COLOR 0b00#2), phase := .pnl })

/-- 60_exceptions.md R200: nothing stops. Every operation and every step answers a next state, and so does every run of
any length from any state in any environment. -/
def Obligations.NoOperationStepOrRunStops : Prop :=
  (∀ (i : Instr) (s : State), ∃ t, exec i s = .next t) ∧ (∀ s : State, ∃ t, step s = .next t) ∧
    ∀ (n : Nat) (s : State), core.run n s = .next (stateAt n s)

/-! ## Select words and the step -/

/-- 30_encoding.md R84, R85 (the spec's decision D20): the bits of the select words the step assembles. Log entry 12.
-/
def Obligations.SelectWordsHoldTheSpecBits : Prop :=
  ∀ s : State,
    (s.sel.getLsbD 6 = s.input.rst ∧ s.sel.extractLsb' 4 2 = s.phase.code ∧ s.sel.getLsbD 3 = s.ev .a ∧
      s.sel.getLsbD 2 = s.ev .b ∧ s.sel.getLsbD 1 = s.input.mtxDone ∧ s.sel.getLsbD 0 = s.input.pnlDone) ∧
    (s.ssel.getLsbD 0 = s.input.rst) ∧
    ∀ x : Channel, (s.dsel x).getLsbD 2 = s.pollEn ∧ (s.dsel x).getLsbD 1 = s.pressed x ∧
      (s.dsel x).getLsbD 0 = s.windowOpen x

/-- 30_encoding.md R88: no select word the step assembles has an event bit beside `rst = 1` or `phase != 00`, and all
of them decode. That they decode is 30_encoding.md R86, R89 (the spec's decision D20, log entry 12). -/
def Obligations.AssembledSelectWordsAreWellFormed : Prop :=
  ∀ (s : State) (w : SelectWord), w ∈ s.selectWords → w.wf = true ∧ ∃ i, decode w = .ok i

/-- 30_encoding.md R86 (the spec's decision D20, log entry 12): a step with `rst = 1` performs the operation of `sel`
alone, RESET; any other step performs SYNC_SHIFT, the operation each `dsel_x` decodes to and the operation `sel`
decodes to. The order SYNC_SHIFT, A, B, SEQ is the model's (log entry 6, DEDUCED; OperationsOfAStepCommute says that it
shows nowhere), and so is what the step adds around the operations: the next input vector coming up and the cycle
number, `inputs.tail` and `cycle + 1` (log entries 1, 2, DESIGN CHOICE). -/
def Obligations.StepPerformsTheDecodedOperations : Prop :=
  ∀ s : State,
    (s.input.rst = true → decode (.seq s.sel) = .ok .reset ∧
      ∃ t, exec .reset s = .next t ∧ step s = .next t.advance) ∧
    (s.input.rst = false → ∀ da db i : Instr, decode (.db .a (s.dsel .a)) = .ok da → decode (.db .b (s.dsel .b)) = .ok db →
      decode (.seq s.sel) = .ok i → i ≠ .reset ∧
      ∃ t1 t2 t3 t4, exec .syncShift s = .next t1 ∧ exec da t1 = .next t2 ∧ exec db t2 = .next t3 ∧
        exec i t3 = .next t4 ∧ step s = .next { t4 with inputs := t4.inputs.tail, cycle := t4.cycle + 1 })

/-- 00_scope.md R10, 10_state.md R31: the operations of a step happen together. Whatever the select words, performing
them one after the other gives the same state in all twenty-four orders. R10 is the spec's decision D1 (log entry 12);
log entry 6 rests on this statement. -/
def Obligations.OperationsOfAStepCommute : Prop :=
  ∀ (s : State) (wa wb : BitVec 3) (w : BitVec 7) (is : List Instr), decodeSeq w ≠ .reset →
    is.Perm [.syncShift, decodeDb .a wa, decodeDb .b wb, decodeSeq w] →
    perform is s = perform [.syncShift, decodeDb .a wa, decodeDb .b wb, decodeSeq w] s

/-- 30_encoding.md R86, opcode_table.json: decoder and encoder agree in both directions. Whatever the don't-care bits,
the encoding of an operation decodes to it; and every word that decodes to an operation is of that operation's pattern.
So each word has one meaning and the patterns partition the words that decode. The map is the spec's decision D20 (log
entry 12). -/
def Obligations.DecodeAndEncodeAgree : Prop :=
  (∀ (i : Instr) (fill : BitVec 7), i.wf = true → decode (encodeWith i fill) = .ok i) ∧
    (∀ (w : SelectWord) (i : Instr), decode w = .ok i → ∃ fill : BitVec 7, encodeWith i fill = w) ∧
    ∀ (i j : Instr) (f g : BitVec 7), encodeWith i f = encodeWith j g → i = j

/-- 30_encoding.md R86: one word of each pattern, written out from the map, decodes to its operation. The map is the
spec's decision D20 (log entry 12). -/
def Obligations.WrittenOutSelectWordsDecode : Prop :=
  decode (.seq 0b1100110#7) = .ok .reset ∧ decode (.seq 0b0000011#7) = .ok .idle ∧
    decode (.seq 0b0001001#7) = .ok .toggle ∧ decode (.seq 0b0000110#7) = .ok .cycle ∧
    decode (.seq 0b0001100#7) = .ok .toggleCycle ∧ decode (.seq 0b0010001#7) = .ok .mtxHold ∧
    decode (.seq 0b0010010#7) = .ok .mtxDone ∧ decode (.seq 0b0100011#7) = .ok .indUpdate ∧
    decode (.seq 0b0110010#7) = .ok .pnlHold ∧ decode (.seq 0b0110001#7) = .ok .pnlDone ∧
    decode (.sy 0b0#1) = .ok .syncShift ∧ decode (.db .a 0b111#3) = .ok (.dbAccept .a) ∧
    decode (.db .b 0b110#3) = .ok (.dbRejectWindow .b) ∧ decode (.db .b 0b101#3) = .ok (.dbRejectReleased .b) ∧
    decode (.db .a 0b011#3) = .ok (.dbStalled .a)

/-! ## The step as a whole -/

/-- The block, stepped by decoding select words and performing operations, is the machine of the spec's next-state
equations (00_scope.md R10; 40_debounce.md R101, R107; 41_fsm_transitions.md R132, R133; 42_dispatch.md R161, R164;
10_state.md R28, R42), in every state, reachable or not. The fields `inputs` and `cycle` are the model's own (log
entries 1, 2). Of the rules named, R10 is the spec's decision D1, R101 D3 and D26, R28 D15 and D24, R42 D3, D5, D15 and
D23 (log entry 12). -/
def Obligations.StepIsTheRegisterTransferMachine : Prop := ∀ s : State, step s = .next (registerTransfer s)

/-- 10_state.md R35: every step keeps the invariant. The clause on `speed` is also R25. -/
def Obligations.EveryStepKeepsTheInvariant : Prop := ∀ s t : State, Inv s → step s = .next t → Inv t

/-- 00_scope.md R10, R15, R19: the observable behaviour is determined by the state elements and the input vectors. Two
runs that start with the same elements and see the same inputs for `n` cycles show the same outputs for `n` cycles,
whatever the model's own fields (log entries 1, 2) hold. R10 is the spec's decision D1 (log entry 12). -/
def Obligations.OutputsAreDeterminedByElementsAndInputs : Prop :=
  ∀ (n : Nat) (s t : State), SameElements s t → (∀ k < n, (stateAt k s).input = (stateAt k t).input) →
    outputsOf n s = outputsOf n t

/-! ## The debounce filter -/

/-- 40_debounce.md R103 (the spec's decision D6, log entry 12): elapsed time is the difference modulo `2^TSW`. R104: the
window test is strict, against 250. -/
def Obligations.WindowOpensAboveTwoHundredFifty : Prop :=
  ∀ (x : Channel) (s : State),
    (elapsed s.input.now (s.last x)).toNat = (s.input.now.toNat + 2 ^ 32 - (s.last x).toNat) % 2 ^ 32 ∧
    (s.windowOpen x = true ↔ 250 < (s.input.now.toNat + 2 ^ 32 - (s.last x).toNat) % 2 ^ 32)

/-- 40_debounce.md R102, R105: an event is a poll cycle, a pressed reading of `sx2`, and an open window. -/
def Obligations.EventIsPolledPressedAndOpen : Prop :=
  ∀ s : State, (s.ev .a = true ↔ s.phase = .poll ∧ s.input.rst = false ∧ s.sa2 = false ∧ s.windowOpen .a = true) ∧
    (s.ev .b = true ↔ s.phase = .poll ∧ s.input.rst = false ∧ s.sb2 = false ∧ s.windowOpen .b = true)

/-- 40_debounce.md R107 to R110 (R110 is derived from R105): which channel operation a step takes, whether it emits,
and what becomes of the channel's record. The record under `rst = 1` is 70_reset_and_hazards.md R230 (the spec's
decisions D2, D27) and 10_state.md R42 (D5), log entry 12; the words are 30_encoding.md R85, R86 (D20). -/
def Obligations.ChannelOperationFollowsItsSignals : Prop :=
  ∀ (x : Channel) (s : State),
    (s.phase ≠ .poll ∨ s.input.rst = true → decode (.db x (s.dsel x)) = .ok (.dbStalled x) ∧ s.ev x = false) ∧
    (s.input.rst = true → (nextState s).last x = Config.LAST_RESET) ∧
    (s.phase ≠ .poll → s.input.rst = false → (nextState s).last x = s.last x) ∧
    (s.phase = .poll → s.input.rst = false → s.pressed x = false →
      decode (.db x (s.dsel x)) = .ok (.dbRejectReleased x) ∧ s.ev x = false ∧ (nextState s).last x = s.last x) ∧
    (s.phase = .poll → s.input.rst = false → s.pressed x = true → s.windowOpen x = false →
      decode (.db x (s.dsel x)) = .ok (.dbRejectWindow x) ∧ s.ev x = false ∧ (nextState s).last x = s.last x) ∧
    (s.phase = .poll → s.input.rst = false → s.pressed x = true → s.windowOpen x = true →
      decode (.db x (s.dsel x)) = .ok (.dbAccept x) ∧ s.ev x = true ∧ (nextState s).last x = s.input.now)

/-- 40_debounce.md R111: no level-change detector. Whether a channel accepts depends on the phase, the level it reads now,
its record and this cycle's input, and on nothing the block remembers besides. -/
def Obligations.EventDependsOnNoEarlierLevel : Prop :=
  ∀ (x : Channel) (s t : State), s.phase = t.phase → s.level x = t.level x → s.last x = t.last x → s.input = t.input →
    s.ev x = t.ev x

/-- 40_debounce.md R100: the channels do not interfere. What one channel's registers become depends on its own registers,
its own line, the phase, `rst` and `now`: not on the other channel's registers or line, nor on the fan state. -/
def Obligations.ChannelsDoNotInterfere : Prop :=
  ∀ s t : State, s.phase = t.phase → s.input.rst = t.input.rst → s.input.now = t.input.now →
    (s.input.btnA = t.input.btnA → s.syncA = t.syncA → s.lastA = t.lastA →
      s.ev .a = t.ev .a ∧ (nextState s).syncA = (nextState t).syncA ∧
        (nextState s).lastA = (nextState t).lastA) ∧
    (s.input.btnB = t.input.btnB → s.syncB = t.syncB → s.lastB = t.lastB →
      s.ev .b = t.ev .b ∧ (nextState s).syncB = (nextState t).syncB ∧
        (nextState s).lastB = (nextState t).lastB)

/-- 70_reset_and_hazards.md R248, R239, 40_debounce.md R117 (the spec's decision D3): a line level sampled now is what
the channel reads `SYNC_STAGES` cycles later, in every phase; so a press of one sampled edge is an event there if that
is a poll cycle with the window open. Log entry 12. -/
def Obligations.LineLevelIsReadTwoCyclesLater : Prop :=
  ∀ s : State, NoReset Config.SYNC_STAGES s →
    (stateAt Config.SYNC_STAGES s).pressed .a = !s.input.btnA ∧
    (stateAt Config.SYNC_STAGES s).pressed .b = !s.input.btnB ∧
    (s.input.btnA = false → (stateAt Config.SYNC_STAGES s).pollEn = true →
      (stateAt Config.SYNC_STAGES s).windowOpen .a = true → (stateAt Config.SYNC_STAGES s).ev .a = true) ∧
    (s.input.btnB = false → (stateAt Config.SYNC_STAGES s).pollEn = true →
      (stateAt Config.SYNC_STAGES s).windowOpen .b = true → (stateAt Config.SYNC_STAGES s).ev .b = true)

/-- 40_debounce.md R116 (the spec's decision D5): after reset the window is open exactly from timestamp 251 on, until
the channel first accepts. Log entry 12; RESET is 70_reset_and_hazards.md R230. -/
def Obligations.WindowAfterResetOpensAtTimestampAboveWindow : Prop :=
  ∀ (x : Channel) (s t : State), exec .reset s = .next t →
    (t.windowOpen x = true ↔ 251 ≤ t.input.now.toNat)

/-- 40_debounce.md R112: at most one event per channel per window. On a clock that never runs backwards, two events of
one channel, at whatever cycles and with whatever between them but no reset, are more than `WINDOW` units of `now`
apart. The clock is 60_exceptions.md R212, R214 (log entries 14, 15). -/
def Obligations.EventsOfAChannelAreMoreThanWindowApart : Prop :=
  ∀ (x : Channel) (s : State) (τ : Nat → Nat) (n : Nat), 0 < n → ClockMonotone τ (n + 1) s → NoReset (n + 1) s →
    s.ev x = true → (stateAt n s).ev x = true →
    τ 0 + Config.WINDOW * Config.NOW_UNIT_MS < τ n

/-- 40_debounce.md R113: the count of events of a continuous hold, stalls included. Over `n` cycles on a monotone clock
from `t0`, if every millisecond up to `t0 + L` is seen by a poll cycle and none later, the channel reads pressed in all
poll cycles and the first cycle's press is accepted, then `L / 251 + 1` events are accepted, each a multiple of 251 after
`t0` (and no two at one timestamp, by EventsOfAChannelAreMoreThanWindowApart). -/
def Obligations.HeldButtonFiresOncePerWindow : Prop :=
  ∀ (x : Channel) (s : State) (t0 L n : Nat) (τ : Nat → Nat), τ 0 = 0 → ClockMonotone (fun k => t0 + τ k) n s →
    NoReset n s → 0 < n → s.ev x = true →
    (∀ k < n, (stateAt k s).phase = .poll → (stateAt k s).pressed x = true ∧ τ k ≤ L) →
    (∀ m ≤ L, ∃ k < n, (stateAt k s).phase = .poll ∧ τ k = m) →
    countCycles (State.ev x) n s = L / 251 + 1 ∧ ∀ k < n, (stateAt k s).ev x = true → 251 ∣ τ k

/-! ## The fan state machine -/

/-- 41_fsm_transitions.md R131: the speed successor. -/
def Obligations.SpeedSuccessorWraps : Prop :=
  nxt 0b01#2 = 0b10#2 ∧ nxt 0b10#2 = 0b11#2 ∧ nxt 0b11#2 = 0b01#2 ∧ nxt 0b00#2 = 0b01#2 ∧
    ∀ v : SpeedCode, SpeedLegal (nxt v) ∧ (SpeedLegal v → nxt (nxt (nxt v)) = v)

/-- 41_fsm_transitions.md R134, 60_exceptions.md R202, 30_encoding.md R86, the step: a poll cycle without an event.
Nothing but the synchronizers moves (40_debounce.md R101, the spec's decisions D3, D26, log entry 12), and the done
lines are ignored. The fields `inputs` and `cycle` are the model's own (log entries 1, 2). The map of R86 is decision
D20. -/
def Obligations.PollCycleWithoutEventIsIdle : Prop :=
  ∀ s : State, s.phase = .poll → s.input.rst = false → s.ev .a = false → s.ev .b = false →
    decode (.seq s.sel) = .ok .idle ∧ s.render = false ∧
    step s = .next
      { s with
        syncA := shiftIn s.syncA s.input.btnA, syncB := shiftIn s.syncB s.input.btnB
        inputs := s.inputs.tail, cycle := s.cycle + 1 }

/-- 41_fsm_transitions.md R135, 30_encoding.md R86, the step: a poll cycle with an event on A and none on B. The
synchronizers shift beside it (40_debounce.md R101, the spec's decisions D3, D26, log entry 12); the fields `inputs`
and `cycle` are the model's own (log entries 1, 2). The map of R86 is decision D20. -/
def Obligations.PollCycleWithEventOnAToggles : Prop :=
  ∀ s : State, s.ev .a = true → s.ev .b = false →
    decode (.seq s.sel) = .ok .toggle ∧ s.render = true ∧
    step s = .next
      { s with
        power := !s.power, lastA := s.input.now, fbPower := !s.power, fbSpeed := s.speed, phase := .mtx
        syncA := shiftIn s.syncA s.input.btnA, syncB := shiftIn s.syncB s.input.btnB
        inputs := s.inputs.tail, cycle := s.cycle + 1 }

/-- 41_fsm_transitions.md R136, 30_encoding.md R86, the step: a poll cycle with an event on B and none on A, device on
and device off. The synchronizers shift beside it (40_debounce.md R101, the spec's decisions D3, D26, log entry 12);
the fields `inputs` and `cycle` are the model's own (log entries 1, 2). The map of R86 is decision D20. -/
def Obligations.PollCycleWithEventOnBCycles : Prop :=
  ∀ s : State, s.ev .a = false → s.ev .b = true →
    decode (.seq s.sel) = .ok .cycle ∧ s.render = s.power ∧
    (s.power = true → step s = .next
      { s with
        speed := nxt s.speed, lastB := s.input.now, fbPower := true, fbSpeed := nxt s.speed, phase := .mtx
        syncA := shiftIn s.syncA s.input.btnA, syncB := shiftIn s.syncB s.input.btnB
        inputs := s.inputs.tail, cycle := s.cycle + 1 }) ∧
    (s.power = false → step s = .next
      { s with
        speed := nxt s.speed, lastB := s.input.now
        syncA := shiftIn s.syncA s.input.btnA, syncB := shiftIn s.syncB s.input.btnB
        inputs := s.inputs.tail, cycle := s.cycle + 1 })

/-- 41_fsm_transitions.md R137, 30_encoding.md R86, the step (the spec's decision D22): both channels accept in one
poll cycle; one render, of the state after both changes. The synchronizers shift beside it (40_debounce.md R101,
decisions D3, D26, log entry 12); the fields `inputs` and `cycle` are the model's own (log entries 1, 2). The map of
R86 is decision D20. -/
def Obligations.PollCycleWithBothEventsRendersOnce : Prop :=
  ∀ s : State, s.ev .a = true → s.ev .b = true →
    decode (.seq s.sel) = .ok .toggleCycle ∧ s.render = true ∧
    step s = .next
      { s with
        power := !s.power, speed := nxt s.speed, lastA := s.input.now, lastB := s.input.now
        fbPower := !s.power, fbSpeed := nxt s.speed, phase := .mtx
        syncA := shiftIn s.syncA s.input.btnA, syncB := shiftIn s.syncB s.input.btnB
        inputs := s.inputs.tail, cycle := s.cycle + 1 }

/-- 41_fsm_transitions.md R138: the complete transition table of a poll cycle, cell by cell as the spec prints it. -/
def Obligations.PollCycleTransitionTable : Prop :=
  (PollRow false 1 false false false 1 none ∧ PollRow false 1 true false true 1 (some 1) ∧
    PollRow false 1 false true false 2 none ∧ PollRow false 1 true true true 2 (some 2)) ∧
  (PollRow false 2 false false false 2 none ∧ PollRow false 2 true false true 2 (some 2) ∧
    PollRow false 2 false true false 3 none ∧ PollRow false 2 true true true 3 (some 3)) ∧
  (PollRow false 3 false false false 3 none ∧ PollRow false 3 true false true 3 (some 3) ∧
    PollRow false 3 false true false 1 none ∧ PollRow false 3 true true true 1 (some 1)) ∧
  (PollRow true 1 false false true 1 none ∧ PollRow true 1 true false false 1 (some 0) ∧
    PollRow true 1 false true true 2 (some 2) ∧ PollRow true 1 true true false 2 (some 0)) ∧
  (PollRow true 2 false false true 2 none ∧ PollRow true 2 true false false 2 (some 0) ∧
    PollRow true 2 false true true 3 (some 3) ∧ PollRow true 2 true true false 3 (some 0)) ∧
  (PollRow true 3 false false true 3 none ∧ PollRow true 3 true false false 3 (some 0) ∧
    PollRow true 3 false true true 1 (some 1) ∧ PollRow true 3 true true false 1 (some 0))

/-- 41_fsm_transitions.md R130: without reset, `power` changes only in a poll cycle with an event on A, `speed` only in
one with an event on B, and in every other phase both are held. -/
def Obligations.FanStateChangesOnlyOnEvents : Prop :=
  ∀ s t : State, s.input.rst = false → step s = .next t →
    (t.power ≠ s.power → s.phase = .poll ∧ s.ev .a = true) ∧
    (t.speed ≠ s.speed → s.phase = .poll ∧ s.ev .b = true) ∧
    (s.phase ≠ .poll → t.power = s.power ∧ t.speed = s.speed)

/-- 41_fsm_transitions.md R132 over a whole run: after any number of cycles without reset, in any environment, `power` is
what the number of events on A makes it and `speed` what the number of events on B makes it, and nothing else counts:
stalls, lost presses, done lines and the device being off change neither. -/
def Obligations.FanStateCountsItsEvents : Prop :=
  ∀ (n : Nat) (s : State), NoReset n s →
    (stateAt n s).power = (s.power ^^ decide (countCycles (State.ev .a) n s % 2 = 1)) ∧
    (stateAt n s).speed = nxt^[countCycles (State.ev .b) n s] s.speed

/-- 41_fsm_transitions.md R139, the round-trip law, over every run with two events on A and none on B, whatever lies
between them: the state is back, and exactly two renders have started, one of them of the off frame. -/
def Obligations.TwoTogglesAreARoundTrip : Prop :=
  ∀ (n : Nat) (s : State), NoReset n s → countCycles (State.ev .a) n s = 2 → countCycles (State.ev .b) n s = 0 →
    (stateAt n s).power = s.power ∧ (stateAt n s).speed = s.speed ∧
      framesRendered n s = [idx (!s.power) s.speed, idx s.power s.speed]

/-- 41_fsm_transitions.md R140, the wraparound law, over every run that starts powered on with three events on B and none
on A: the speed is back, and three renders have started, one of each frame on the way. -/
def Obligations.ThreeCyclesWhileOnWrapAround : Prop :=
  ∀ (n : Nat) (s : State), NoReset n s → s.power = true → SpeedLegal s.speed →
    countCycles (State.ev .a) n s = 0 → countCycles (State.ev .b) n s = 3 →
    (stateAt n s).power = true ∧ (stateAt n s).speed = s.speed ∧
      framesRendered n s = [nxt s.speed, nxt (nxt s.speed), s.speed]

/-- 41_fsm_transitions.md R141, the invisible-cycling law: off and polling, however many events come on B, no render
starts, nothing is requested, and buffer and lamp stay, until an event on A, which renders the speed as it then stands. -/
def Obligations.CyclingWhileOffIsInvisible : Prop :=
  ∀ (n : Nat) (s : State), NoReset n s → s.phase = .poll → s.power = false → countCycles (State.ev .a) n s = 0 →
    framesRendered n s = [] ∧
    (∀ k ≤ n, (stateAt k s).phase = .poll ∧ (stateAt k s).mtxReq = false ∧ (stateAt k s).pnlReq = false ∧
      (stateAt k s).fbPower = s.fbPower ∧ (stateAt k s).fbSpeed = s.fbSpeed ∧ (stateAt k s).led = s.led) ∧
    ((stateAt n s).ev .a = true → (stateAt n s).ev .b = false →
      (stateAt (n + 1) s).mtxReq = true ∧
        (stateAt (n + 1) s).frameIndex = nxt^[countCycles (State.ev .b) n s] s.speed)

/-- 10_state.md R34: all six pairs `(power, speed)` are reached from reset, by inputs alone and without a further reset,
with the block polling again. -/
def Obligations.AllSixFanStatesAreReachable : Prop :=
  ∀ (p : Bool) (v : SpeedCode), SpeedLegal v → ∃ is : List InputVector,
    NoReset is.length { State.reset with inputs := is } ∧
    (stateAt is.length { State.reset with inputs := is }).power = p ∧
    (stateAt is.length { State.reset with inputs := is }).speed = v ∧
    (stateAt is.length { State.reset with inputs := is }).phase = .poll

/-! ## Frame capture and dispatch -/

/-- 42_dispatch.md R161: TOGGLE, TOGGLE_CYCLE, and CYCLE while on, and no other operation, capture the NEW state and
enter MTX in the same edge; the buffer is written nowhere else. -/
def Obligations.RenderCapturesTheNewState : Prop :=
  ∀ s t : State, s.input.rst = false → step s = .next t →
    (s.render = true ↔ decode (.seq s.sel) = .ok .toggle ∨ decode (.seq s.sel) = .ok .toggleCycle ∨
      (decode (.seq s.sel) = .ok .cycle ∧ s.power = true)) ∧
    (s.render = true → t.fbPower = t.power ∧ t.fbSpeed = t.speed ∧ t.fbPower = s.powerN ∧ t.fbSpeed = s.speedN ∧
      t.phase = .mtx) ∧
    (s.render = false → t.fbPower = s.fbPower ∧ t.fbSpeed = s.fbSpeed)

/-- 42_dispatch.md R162, R163, the steps (the spec's decisions D24, D29): the matrix wait, `pnl_done`, the buttons and
`now` ignored. The synchronizers shift beside it (40_debounce.md R101, decisions D3, D26, log entry 12); the fields
`inputs` and `cycle` are the model's own (log entries 1, 2). -/
def Obligations.MatrixWaitEndsOnMtxDoneOnly : Prop :=
  ∀ s : State, s.phase = .mtx → s.input.rst = false →
    step s = .next
      { s with
        phase := if s.input.mtxDone then .ind else .mtx
        syncA := shiftIn s.syncA s.input.btnA, syncB := shiftIn s.syncB s.input.btnB
        inputs := s.inputs.tail, cycle := s.cycle + 1 }

/-- 42_dispatch.md R164, 30_encoding.md R86, the step: IND lasts one cycle, whatever the inputs. The synchronizers
shift beside it (40_debounce.md R101, the spec's decisions D3, D26, log entry 12); the fields `inputs` and `cycle` are
the model's own (log entries 1, 2). The map of R86 is decision D20. -/
def Obligations.IndicatorUpdateTakesOneCycle : Prop :=
  ∀ s : State, s.phase = .ind → s.input.rst = false →
    decode (.seq s.sel) = .ok .indUpdate ∧ step s = .next
      { s with
        led := ind (Config.COLOR (if s.fbPower then s.fbSpeed else 0b00#2)), phase := .pnl
        syncA := shiftIn s.syncA s.input.btnA, syncB := shiftIn s.syncB s.input.btnB
        inputs := s.inputs.tail, cycle := s.cycle + 1 }

/-- 42_dispatch.md R165, R166, the steps (the spec's decision D24): the panel wait, `mtx_done`, the buttons and `now`
ignored. The synchronizers shift beside it (40_debounce.md R101, decisions D3, D26, log entry 12); the fields `inputs` and
`cycle` are the model's own (log entries 1, 2). -/
def Obligations.PanelWaitEndsOnPnlDoneOnly : Prop :=
  ∀ s : State, s.phase = .pnl → s.input.rst = false →
    step s = .next
      { s with
        phase := if s.input.pnlDone then .poll else .pnl
        syncA := shiftIn s.syncA s.input.btnA, syncB := shiftIn s.syncB s.input.btnB
        inputs := s.inputs.tail, cycle := s.cycle + 1 }

/-- 10_state.md R28, R30: without reset `phase` moves in four ways "and in no other way", and `led` is written in IND
only. The rules are the spec's decisions D15, D23, D24 (log entry 12). -/
def Obligations.PhaseMovesInFourWaysAndLampInOne : Prop :=
  ∀ s t : State, s.input.rst = false → step s = .next t →
    (t.phase ≠ s.phase →
      (s.phase = .poll ∧ t.phase = .mtx ∧ s.render = true) ∨
      (s.phase = .mtx ∧ t.phase = .ind ∧ s.input.mtxDone = true) ∨
      (s.phase = .ind ∧ t.phase = .pnl) ∨
      (s.phase = .pnl ∧ t.phase = .poll ∧ s.input.pnlDone = true)) ∧
    (t.led ≠ s.led → s.phase = .ind ∧ t.led = ind (Config.COLOR s.frameIndex))

/-- 60_exceptions.md R205, 30_encoding.md R73 (the spec's decisions D27, D29): what each phase ignores. Two cycles from
the same state with the same line levels take the same step if they differ only in inputs the phase does not read, and
under `rst = 1` whatever they are. The two rules also rest on decisions D22, D24 (log entry 12). -/
def Obligations.InputsOfAnotherPhaseAreIgnored : Prop :=
  ∀ (s : State) (i j : InputVector),
    (i.rst = true → j.rst = true → step (s.withInput i) = step (s.withInput j)) ∧
    (i.rst = false → j.rst = false → i.btnA = j.btnA → i.btnB = j.btnB →
      (s.phase = .poll → i.now = j.now → step (s.withInput i) = step (s.withInput j)) ∧
      (s.phase = .mtx → i.mtxDone = j.mtxDone → step (s.withInput i) = step (s.withInput j)) ∧
      (s.phase = .ind → step (s.withInput i) = step (s.withInput j)) ∧
      (s.phase = .pnl → i.pnlDone = j.pnlDone → step (s.withInput i) = step (s.withInput j)))

/-- 42_dispatch.md R160, R168, 20_memory.md R59, R62, 70_reset_and_hazards.md R249: a dispatch runs through. If the
matrix takes `m` cycles and the panel `p`, then after `m + 1 + p` cycles the block polls again; on the way it requests
the matrix for `m` cycles with the lamp still showing the previous frame, updates the lamp in one cycle, and requests
the panel for `p` cycles with the lamp showing the frame, all from a buffer that never changes. R160 is the spec's
decision D24 (log entry 12). -/
def Obligations.DispatchDeliversOneFrameInOrder : Prop :=
  ∀ (s : State) (m p : Nat), s.phase = .mtx → NoReset (m + 1 + p) s → 1 ≤ m → 1 ≤ p →
    (∀ k < m, (stateAt k s).input.mtxDone = decide (k + 1 = m)) →
    (∀ k < p, (stateAt (m + 1 + k) s).input.pnlDone = decide (k + 1 = p)) →
    (∀ k < m, (stateAt k s).mtxReq = true ∧ (stateAt k s).led = s.led) ∧
    ((stateAt m s).phase = .ind ∧ (stateAt m s).led = s.led) ∧
    (∀ k < p, (stateAt (m + 1 + k) s).pnlReq = true ∧ (stateAt (m + 1 + k) s).lampAgrees) ∧
    ((stateAt (m + 1 + p) s).phase = .poll ∧ (stateAt (m + 1 + p) s).lampAgrees) ∧
    ∀ k ≤ m + 1 + p, (stateAt k s).fbPower = s.fbPower ∧ (stateAt k s).fbSpeed = s.fbSpeed ∧
      (stateAt k s).power = s.power ∧ (stateAt k s).speed = s.speed

/-- 60_exceptions.md R203, 20_memory.md R63 (the spec's decision D25): a renderer that never completes is a hang.
However long its done line stays 0, with no reset, whatever the buttons do, the block waits, accepts nothing and
changes no output. The wait in PNL is decision D24; log entry 12. -/
def Obligations.UnansweredRequestWaitsForEver : Prop :=
  ∀ (n : Nat) (s : State), NoReset n s →
    ((s.phase = .mtx ∧ ∀ k < n, (stateAt k s).input.mtxDone = false) ∨
      (s.phase = .pnl ∧ ∀ k < n, (stateAt k s).input.pnlDone = false)) →
    (stateAt n s).outputs = s.outputs ∧ (stateAt n s).busy = true ∧
      (stateAt n s).lastA = s.lastA ∧ (stateAt n s).lastB = s.lastB ∧
      countCycles (State.ev .a) n s = 0 ∧ countCycles (State.ev .b) n s = 0

/-- 42_dispatch.md R169, R170: renders never overlap and each is delivered once to each device. Between two polling states
with no reset between them, as many matrix renders complete as start, as many lamp updates happen, and as many panel
renders complete. -/
def Obligations.EveryRenderIsDeliveredOnceToEachDevice : Prop :=
  ∀ (n : Nat) (s : State), NoReset n s → s.phase = .poll → (stateAt n s).phase = .poll →
    (framesRendered n s).length = countCycles State.render n s ∧
    countCycles (fun t => t.mtxReq && t.input.mtxDone) n s = countCycles State.render n s ∧
    countCycles (fun t => decide (t.phase = .ind)) n s = countCycles State.render n s ∧
    countCycles (fun t => t.pnlReq && t.input.pnlDone) n s = countCycles State.render n s

/-- 10_state.md R35 (e), 20_memory.md R61: once an IND_UPDATE has run since the last reset, the lamp agrees with the
buffer whenever the block is in PNL or POLL. It holds from every state, reachable or not. -/
def Obligations.LampAgreesAfterAnIndicatorUpdate : Prop :=
  ∀ (n : Nat) (s : State), NoReset n s → 1 ≤ countCycles (fun t => decide (t.phase = .ind)) n s →
    (stateAt n s).phase = .pnl ∨ (stateAt n s).phase = .poll → (stateAt n s).lampAgrees

/-! ## Outputs -/

/-- 30_encoding.md R74 to R76, 42_dispatch.md R167, R171, R173, R176 (the spec's decisions D13, D17, D28): the ports as
functions of the state. The lamp lines are R75; that payloads hold between renders is decision D30 (log entry 12). -/
def Obligations.OutputPortsAreTheSpecFunctions : Prop :=
  ∀ s : State,
    (s.outputs.mtxReq = true ↔ s.phase = .mtx) ∧ (s.outputs.pnlReq = true ↔ s.phase = .pnl) ∧
    (s.outputs.busy = true ↔ s.phase ≠ .poll) ∧ ¬(s.outputs.mtxReq = true ∧ s.outputs.pnlReq = true) ∧
    (s.fbPower = true → s.outputs.mtxGlyph = s.fbSpeed ∧ s.outputs.pnlSpeed = s.fbSpeed) ∧
    (s.fbPower = false → s.outputs.mtxGlyph = 0b00#2 ∧ s.outputs.pnlSpeed = 0b00#2) ∧
    s.outputs.pnlPower = s.fbPower ∧ s.outputs.mtxPattern = Config.GLYPH s.outputs.mtxGlyph ∧
    s.outputs.mtxColor.extractLsb' 16 8 = (Config.COLOR s.outputs.mtxGlyph).r ∧
    s.outputs.mtxColor.extractLsb' 8 8 = (Config.COLOR s.outputs.mtxGlyph).g ∧
    s.outputs.mtxColor.extractLsb' 0 8 = (Config.COLOR s.outputs.mtxGlyph).b ∧
    s.outputs.ledR = s.led.getLsbD 2 ∧ s.outputs.ledG = s.led.getLsbD 1 ∧ s.outputs.ledB = s.led.getLsbD 0 ∧
    (SpeedLegal s.fbSpeed → s.outputs.pnlSpeed = s.outputs.mtxGlyph ∧
      (s.outputs.pnlPower = true ↔ s.outputs.mtxGlyph ≠ 0b00#2))

/-- 10_state.md R29, 20_memory.md R60: the three interfaces show one snapshot. Their ports depend on the phase, the
buffer and the lamp register, never on `power` and `speed` directly nor on the inputs. R29 is the spec's decisions D23,
D30 (log entry 12). -/
def Obligations.InterfacesShowTheSnapshotOnly : Prop :=
  ∀ s t : State, s.phase = t.phase → s.fbPower = t.fbPower → s.fbSpeed = t.fbSpeed → s.led = t.led →
    t.outputs = { s.outputs with power := t.power, speed := t.speed, evA := t.ev .a, evB := t.ev .b }

/-- 42_dispatch.md R175: the indicator function, channel by channel and on the spec's test defaults; IND_UPDATE loads its
value. -/
def Obligations.IndicatorIsNonzeroPerChannel : Prop :=
  (∀ c : ColorTriple, ((ind c).getLsbD 2 = true ↔ c.r ≠ 0) ∧ ((ind c).getLsbD 1 = true ↔ c.g ≠ 0) ∧
    ((ind c).getLsbD 0 = true ↔ c.b ≠ 0)) ∧
  ind ⟨0, 0, 255⟩ = 0b001#3 ∧ ind ⟨0, 255, 0⟩ = 0b010#3 ∧ ind ⟨255, 191, 0⟩ = 0b110#3 ∧ ind ⟨255, 0, 0⟩ = 0b100#3 ∧
  ∀ s t : State, exec .indUpdate s = .next t → t.led = ind (Config.COLOR s.frameIndex)

/-! ## Configuration -/

/-- 00_scope.md R7, 30_encoding.md R71 (the spec's decision D2): reset is active high and synchronous. At the high
level of `rst` the step leads to the reset state (70_reset_and_hazards.md R230); at the low level reset is not asked
for; and within the cycle `rst` changes no output but the event pulses, which it makes 0 (40_debounce.md R105,
60_exceptions.md R205, the spec's decision D27). `State.resetActive` and the state the Moore outputs show,
`State.visible`, are the model's (log entry 15, DESIGN CHOICE; the decisions are log entry 12). -/
def Obligations.ResetIsActiveHighAndSynchronous : Prop :=
  ∀ (s : State) (i : InputVector),
    (s.withInput { i with rst := true }).resetActive = true ∧ (s.withInput { i with rst := false }).resetActive = false ∧
    SameElements (nextState (s.withInput { i with rst := true })) State.reset ∧
    (s.withInput { i with rst := true }).outputs =
      { (s.withInput { i with rst := false }).outputs with evA := false, evB := false }
end

