-- ==== Sys2Proof/Laws/State.lean ====
section
/-! SUPPORT. One lemma per field per named update of the state, and how the updates act on what the channels and the
outputs read. -/

namespace Sys2Proof.Machine

/-! ## A synchronizer's shift, flop by flop (10_state.md R21) -/

/-- The first flop takes the line. -/
theorem shiftIn_first (c : SyncChain) (line : Bool) : (shiftIn c line).getLsbD 0 = line := by
  revert c line; decide

/-- Every other flop takes the one before it. -/
theorem shiftIn_next (c : SyncChain) (line : Bool) (i : Nat) (h : i + 1 < Config.SYNC_STAGES) :
    (shiftIn c line).getLsbD (i + 1) = c.getLsbD i := by
  rw [shiftIn, BitVec.getLsbD_shiftConcat]; simp [h]

end Sys2Proof.Machine

namespace Sys2Proof.Machine.State

variable (s : State)

/-! ## `setFan` -/

@[simp] theorem setFan_syncA (p : Bool) (v : SpeedCode) : (s.setFan p v).syncA = s.syncA := rfl
@[simp] theorem setFan_syncB (p : Bool) (v : SpeedCode) : (s.setFan p v).syncB = s.syncB := rfl
@[simp] theorem setFan_lastA (p : Bool) (v : SpeedCode) : (s.setFan p v).lastA = s.lastA := rfl
@[simp] theorem setFan_lastB (p : Bool) (v : SpeedCode) : (s.setFan p v).lastB = s.lastB := rfl
@[simp] theorem setFan_power (p : Bool) (v : SpeedCode) : (s.setFan p v).power = p := rfl
@[simp] theorem setFan_speed (p : Bool) (v : SpeedCode) : (s.setFan p v).speed = v := rfl
@[simp] theorem setFan_phase (p : Bool) (v : SpeedCode) : (s.setFan p v).phase = s.phase := rfl
@[simp] theorem setFan_fbPower (p : Bool) (v : SpeedCode) : (s.setFan p v).fbPower = s.fbPower := rfl
@[simp] theorem setFan_fbSpeed (p : Bool) (v : SpeedCode) : (s.setFan p v).fbSpeed = s.fbSpeed := rfl
@[simp] theorem setFan_led (p : Bool) (v : SpeedCode) : (s.setFan p v).led = s.led := rfl
@[simp] theorem setFan_inputs (p : Bool) (v : SpeedCode) : (s.setFan p v).inputs = s.inputs := rfl
@[simp] theorem setFan_cycle (p : Bool) (v : SpeedCode) : (s.setFan p v).cycle = s.cycle := rfl

/-! ## `capture` -/

@[simp] theorem capture_syncA (p : Bool) (v : SpeedCode) : (s.capture p v).syncA = s.syncA := rfl
@[simp] theorem capture_syncB (p : Bool) (v : SpeedCode) : (s.capture p v).syncB = s.syncB := rfl
@[simp] theorem capture_lastA (p : Bool) (v : SpeedCode) : (s.capture p v).lastA = s.lastA := rfl
@[simp] theorem capture_lastB (p : Bool) (v : SpeedCode) : (s.capture p v).lastB = s.lastB := rfl
@[simp] theorem capture_power (p : Bool) (v : SpeedCode) : (s.capture p v).power = s.power := rfl
@[simp] theorem capture_speed (p : Bool) (v : SpeedCode) : (s.capture p v).speed = s.speed := rfl
@[simp] theorem capture_phase (p : Bool) (v : SpeedCode) : (s.capture p v).phase = .mtx := rfl
@[simp] theorem capture_fbPower (p : Bool) (v : SpeedCode) : (s.capture p v).fbPower = p := rfl
@[simp] theorem capture_fbSpeed (p : Bool) (v : SpeedCode) : (s.capture p v).fbSpeed = v := rfl
@[simp] theorem capture_led (p : Bool) (v : SpeedCode) : (s.capture p v).led = s.led := rfl
@[simp] theorem capture_inputs (p : Bool) (v : SpeedCode) : (s.capture p v).inputs = s.inputs := rfl
@[simp] theorem capture_cycle (p : Bool) (v : SpeedCode) : (s.capture p v).cycle = s.cycle := rfl

/-! ## `setPhase` -/

@[simp] theorem setPhase_syncA (p : Phase) : (s.setPhase p).syncA = s.syncA := rfl
@[simp] theorem setPhase_syncB (p : Phase) : (s.setPhase p).syncB = s.syncB := rfl
@[simp] theorem setPhase_lastA (p : Phase) : (s.setPhase p).lastA = s.lastA := rfl
@[simp] theorem setPhase_lastB (p : Phase) : (s.setPhase p).lastB = s.lastB := rfl
@[simp] theorem setPhase_power (p : Phase) : (s.setPhase p).power = s.power := rfl
@[simp] theorem setPhase_speed (p : Phase) : (s.setPhase p).speed = s.speed := rfl
@[simp] theorem setPhase_phase (p : Phase) : (s.setPhase p).phase = p := rfl
@[simp] theorem setPhase_fbPower (p : Phase) : (s.setPhase p).fbPower = s.fbPower := rfl
@[simp] theorem setPhase_fbSpeed (p : Phase) : (s.setPhase p).fbSpeed = s.fbSpeed := rfl
@[simp] theorem setPhase_led (p : Phase) : (s.setPhase p).led = s.led := rfl
@[simp] theorem setPhase_inputs (p : Phase) : (s.setPhase p).inputs = s.inputs := rfl
@[simp] theorem setPhase_cycle (p : Phase) : (s.setPhase p).cycle = s.cycle := rfl

/-! ## `setLed` -/

@[simp] theorem setLed_syncA (v : LedLines) : (s.setLed v).syncA = s.syncA := rfl
@[simp] theorem setLed_syncB (v : LedLines) : (s.setLed v).syncB = s.syncB := rfl
@[simp] theorem setLed_lastA (v : LedLines) : (s.setLed v).lastA = s.lastA := rfl
@[simp] theorem setLed_lastB (v : LedLines) : (s.setLed v).lastB = s.lastB := rfl
@[simp] theorem setLed_power (v : LedLines) : (s.setLed v).power = s.power := rfl
@[simp] theorem setLed_speed (v : LedLines) : (s.setLed v).speed = s.speed := rfl
@[simp] theorem setLed_phase (v : LedLines) : (s.setLed v).phase = s.phase := rfl
@[simp] theorem setLed_fbPower (v : LedLines) : (s.setLed v).fbPower = s.fbPower := rfl
@[simp] theorem setLed_fbSpeed (v : LedLines) : (s.setLed v).fbSpeed = s.fbSpeed := rfl
@[simp] theorem setLed_led (v : LedLines) : (s.setLed v).led = v := rfl
@[simp] theorem setLed_inputs (v : LedLines) : (s.setLed v).inputs = s.inputs := rfl
@[simp] theorem setLed_cycle (v : LedLines) : (s.setLed v).cycle = s.cycle := rfl

/-! ## `shiftSync` -/

@[simp] theorem shiftSync_syncA : (s.shiftSync).syncA = shiftIn s.syncA s.input.btnA := rfl
@[simp] theorem shiftSync_syncB : (s.shiftSync).syncB = shiftIn s.syncB s.input.btnB := rfl
@[simp] theorem shiftSync_lastA : (s.shiftSync).lastA = s.lastA := rfl
@[simp] theorem shiftSync_lastB : (s.shiftSync).lastB = s.lastB := rfl
@[simp] theorem shiftSync_power : (s.shiftSync).power = s.power := rfl
@[simp] theorem shiftSync_speed : (s.shiftSync).speed = s.speed := rfl
@[simp] theorem shiftSync_phase : (s.shiftSync).phase = s.phase := rfl
@[simp] theorem shiftSync_fbPower : (s.shiftSync).fbPower = s.fbPower := rfl
@[simp] theorem shiftSync_fbSpeed : (s.shiftSync).fbSpeed = s.fbSpeed := rfl
@[simp] theorem shiftSync_led : (s.shiftSync).led = s.led := rfl
@[simp] theorem shiftSync_inputs : (s.shiftSync).inputs = s.inputs := rfl
@[simp] theorem shiftSync_cycle : (s.shiftSync).cycle = s.cycle := rfl

/-! ## `resetElements` -/

@[simp] theorem resetElements_syncA : (s.resetElements).syncA = State.reset.syncA := rfl
@[simp] theorem resetElements_syncB : (s.resetElements).syncB = State.reset.syncB := rfl
@[simp] theorem resetElements_lastA : (s.resetElements).lastA = State.reset.lastA := rfl
@[simp] theorem resetElements_lastB : (s.resetElements).lastB = State.reset.lastB := rfl
@[simp] theorem resetElements_power : (s.resetElements).power = State.reset.power := rfl
@[simp] theorem resetElements_speed : (s.resetElements).speed = State.reset.speed := rfl
@[simp] theorem resetElements_phase : (s.resetElements).phase = State.reset.phase := rfl
@[simp] theorem resetElements_fbPower : (s.resetElements).fbPower = State.reset.fbPower := rfl
@[simp] theorem resetElements_fbSpeed : (s.resetElements).fbSpeed = State.reset.fbSpeed := rfl
@[simp] theorem resetElements_led : (s.resetElements).led = State.reset.led := rfl
@[simp] theorem resetElements_inputs : (s.resetElements).inputs = s.inputs := rfl
@[simp] theorem resetElements_cycle : (s.resetElements).cycle = s.cycle := rfl

/-! ## `advance` -/

@[simp] theorem advance_syncA : (s.advance).syncA = s.syncA := rfl
@[simp] theorem advance_syncB : (s.advance).syncB = s.syncB := rfl
@[simp] theorem advance_lastA : (s.advance).lastA = s.lastA := rfl
@[simp] theorem advance_lastB : (s.advance).lastB = s.lastB := rfl
@[simp] theorem advance_power : (s.advance).power = s.power := rfl
@[simp] theorem advance_speed : (s.advance).speed = s.speed := rfl
@[simp] theorem advance_phase : (s.advance).phase = s.phase := rfl
@[simp] theorem advance_fbPower : (s.advance).fbPower = s.fbPower := rfl
@[simp] theorem advance_fbSpeed : (s.advance).fbSpeed = s.fbSpeed := rfl
@[simp] theorem advance_led : (s.advance).led = s.led := rfl
@[simp] theorem advance_inputs : (s.advance).inputs = s.inputs.tail := rfl
@[simp] theorem advance_cycle : (s.advance).cycle = s.cycle + 1 := rfl

/-! ## `setLast`: the record of one channel -/

@[simp] theorem setLast_syncA (x : Channel) (t : Timestamp) : (s.setLast x t).syncA = s.syncA := by cases x <;> rfl
@[simp] theorem setLast_syncB (x : Channel) (t : Timestamp) : (s.setLast x t).syncB = s.syncB := by cases x <;> rfl
@[simp] theorem setLast_power (x : Channel) (t : Timestamp) : (s.setLast x t).power = s.power := by cases x <;> rfl
@[simp] theorem setLast_speed (x : Channel) (t : Timestamp) : (s.setLast x t).speed = s.speed := by cases x <;> rfl
@[simp] theorem setLast_phase (x : Channel) (t : Timestamp) : (s.setLast x t).phase = s.phase := by cases x <;> rfl
@[simp] theorem setLast_fbPower (x : Channel) (t : Timestamp) : (s.setLast x t).fbPower = s.fbPower := by cases x <;> rfl
@[simp] theorem setLast_fbSpeed (x : Channel) (t : Timestamp) : (s.setLast x t).fbSpeed = s.fbSpeed := by cases x <;> rfl
@[simp] theorem setLast_led (x : Channel) (t : Timestamp) : (s.setLast x t).led = s.led := by cases x <;> rfl
@[simp] theorem setLast_inputs (x : Channel) (t : Timestamp) : (s.setLast x t).inputs = s.inputs := by cases x <;> rfl
@[simp] theorem setLast_cycle (x : Channel) (t : Timestamp) : (s.setLast x t).cycle = s.cycle := by cases x <;> rfl
@[simp] theorem setLast_a_lastA (t : Timestamp) : (s.setLast .a t).lastA = t := rfl
@[simp] theorem setLast_a_lastB (t : Timestamp) : (s.setLast .a t).lastB = s.lastB := rfl
@[simp] theorem setLast_b_lastA (t : Timestamp) : (s.setLast .b t).lastA = s.lastA := rfl
@[simp] theorem setLast_b_lastB (t : Timestamp) : (s.setLast .b t).lastB = t := rfl
@[simp] theorem last_setLast_self (x : Channel) (t : Timestamp) : (s.setLast x t).last x = t := by cases x <;> rfl

/-- Writing one channel's record leaves the other's alone (40_debounce.md R100). -/
theorem last_setLast_of_ne {x y : Channel} (h : y ≠ x) (t : Timestamp) : (s.setLast x t).last y = s.last y := by
  cases x <;> cases y <;> first | rfl | exact absurd rfl h

/-! ## The flops by name, and reset by its level (00_scope.md R7) -/

@[simp] theorem shiftSync_sa1 : s.shiftSync.sa1 = s.input.btnA := shiftIn_first _ _
@[simp] theorem shiftSync_sa2 : s.shiftSync.sa2 = s.sa1 := shiftIn_next _ _ 0 (by decide)
@[simp] theorem shiftSync_sb1 : s.shiftSync.sb1 = s.input.btnB := shiftIn_first _ _
@[simp] theorem shiftSync_sb2 : s.shiftSync.sb2 = s.sb1 := shiftIn_next _ _ 0 (by decide)

/-- Reset is active high. -/
@[simp] theorem resetActive_eq : s.resetActive = s.input.rst := by simp [resetActive, Config.RST_ACTIVE]

/-! ## What the updates leave of a channel's reading -/

@[simp] theorem last_a : s.last .a = s.lastA := rfl
@[simp] theorem last_b : s.last .b = s.lastB := rfl
@[simp] theorem level_a : s.level .a = s.sa2 := rfl
@[simp] theorem level_b : s.level .b = s.sb2 := rfl

/-! ## This cycle's input vector: every update but `advance` keeps it -/

/-- The input vector is read from the queue and the cycle number alone. -/
theorem input_congr {s t : State} (hi : s.inputs = t.inputs) (hc : s.cycle = t.cycle) : s.input = t.input := by
  unfold State.input; rw [hi, hc]

@[simp] theorem input_setFan (p : Bool) (v : SpeedCode) : (s.setFan p v).input = s.input := rfl
@[simp] theorem input_capture (p : Bool) (v : SpeedCode) : (s.capture p v).input = s.input := rfl
@[simp] theorem input_setPhase (p : Phase) : (s.setPhase p).input = s.input := rfl
@[simp] theorem input_setLed (v : LedLines) : (s.setLed v).input = s.input := rfl
@[simp] theorem input_shiftSync : (s.shiftSync).input = s.input := rfl
@[simp] theorem input_resetElements : (s.resetElements).input = s.input := rfl
@[simp] theorem input_setLast (x : Channel) (t : Timestamp) : (s.setLast x t).input = s.input := by cases x <;> rfl

/-- A scheduled input vector is this cycle's. -/
@[simp] theorem input_withInputs (i : InputVector) (is : List InputVector) :
    ({ s with inputs := i :: is } : State).input = i := rfl

/-! ## Independent updates commute (10_state.md R31: each element has one writer) -/

theorem setLast_comm {x y : Channel} (h : x ≠ y) (t u : Timestamp) :
    (s.setLast x t).setLast y u = (s.setLast y u).setLast x t := by
  cases x <;> cases y <;> first | rfl | exact absurd rfl h

theorem shiftSync_setLast (x : Channel) (t : Timestamp) : (s.setLast x t).shiftSync = s.shiftSync.setLast x t := by
  cases x <;> rfl

end Sys2Proof.Machine.State
end

