-- ==== Sys2Proof/Laws/Decode.lean ====
section
/-! SUPPORT. What the decoders give on an assembled select word, and the operations of a step. -/

namespace Sys2Proof

@[simp] theorem Phase.ofCode_code (p : Phase) : Phase.ofCode p.code = p := by cases p <;> decide

@[simp] theorem Phase.code_ofCode (c : BitVec 2) : (Phase.ofCode c).code = c := by
  revert c; decide

/-- The `SEQ` decoder on a word given by its fields (30_encoding.md R84, R86). -/
theorem decodeSeq_fields (r a b m d : Bool) (p : Phase) :
    decodeSeq (BitVec.ofBool r ++ p.code ++ BitVec.ofBool a ++ BitVec.ofBool b ++ BitVec.ofBool m ++ BitVec.ofBool d) =
      if r then .reset
      else match p with
        | .poll => if a then (if b then .toggleCycle else .toggle) else if b then .cycle else .idle
        | .mtx => if m then .mtxDone else .mtxHold
        | .ind => .indUpdate
        | .pnl => if d then .pnlDone else .pnlHold := by
  cases r <;> cases a <;> cases b <;> cases m <;> cases d <;> cases p <;> decide

/-- The `DB` decoder on a word given by its fields (30_encoding.md R85, R86). -/
theorem decodeDb_fields (x : Channel) (e p o : Bool) :
    decodeDb x (BitVec.ofBool e ++ BitVec.ofBool p ++ BitVec.ofBool o) =
      if e then (if p then (if o then .dbAccept x else .dbRejectWindow x) else .dbRejectReleased x)
      else .dbStalled x := by
  cases x <;> cases e <;> cases p <;> cases o <;> decide

namespace Machine

/-- With `rst = 1` the step's one operation is RESET. -/
theorem State.operations_of_reset {s : State} (h : s.input.rst = true) : s.operations = [.reset] := by
  have hs : decodeSeq s.sel = .reset := by
    unfold State.sel; rw [decodeSeq_fields, resetActive_eq, h]; rfl
  simp [State.operations, State.selectWords, h, decodeAll, decode, hs]

/-- With `rst = 0` the step's operations are SYNC_SHIFT, one of each channel and one of the sequencer. -/
theorem State.operations_of_noReset {s : State} (h : s.input.rst = false) :
    s.operations = [.syncShift, decodeDb .a (s.dsel .a), decodeDb .b (s.dsel .b), decodeSeq s.sel] := by
  have hs : decodeSy s.ssel = .ok .syncShift := by
    unfold State.ssel; rw [resetActive_eq, h]; rfl
  simp [State.operations, State.selectWords, h, decodeAll, decode, hs]

/-- The `DB` operation of channel `x` in a state: DB_ACCEPT exactly where `ev_x` is 1. -/
theorem State.decodeDb_dsel (s : State) (x : Channel) :
    decodeDb x (s.dsel x) =
      if s.pollEn then
        (if s.pressed x then (if s.windowOpen x then .dbAccept x else .dbRejectWindow x) else .dbRejectReleased x)
      else .dbStalled x := decodeDb_fields x _ _ _

/-- The `SEQ` operation of a state without reset, by phase. -/
theorem State.decodeSeq_sel {s : State} (h : s.input.rst = false) :
    decodeSeq s.sel =
      match s.phase with
      | .poll => if s.ev .a then (if s.ev .b then .toggleCycle else .toggle) else if s.ev .b then .cycle else .idle
      | .mtx => if s.input.mtxDone then .mtxDone else .mtxHold
      | .ind => .indUpdate
      | .pnl => if s.input.pnlDone then .pnlDone else .pnlHold := by
  unfold State.sel; rw [decodeSeq_fields, resetActive_eq, h]; rfl

/-- No event outside a poll cycle (40_debounce.md R110). -/
theorem State.ev_of_not_pollEn {s : State} {x : Channel} (h : s.pollEn = false) : s.ev x = false := by
  simp [State.ev, h]

/-- No event in a stall. -/
theorem State.ev_of_busy {s : State} {x : Channel} (h : s.phase ≠ .poll) : s.ev x = false :=
  ev_of_not_pollEn (by simp [State.pollEn, h])

/-- No event under reset. -/
theorem State.ev_of_reset {s : State} {x : Channel} (h : s.input.rst = true) : s.ev x = false :=
  ev_of_not_pollEn (by simp [State.pollEn, h])

end Machine

end Sys2Proof
end

