-- ==== Sys2Proof/Laws/Meaning.lean ====
section
/-! SUPPORT. What the meanings have in common, said once: what performing an operation can do to the fields that belong
to no sub-block of its own (spec/10_state.md rule R31). -/

namespace Sys2Proof.Machine

/-- No operation touches the environment's fields. -/
theorem exec_keeps_environment {i : Instr} {s t : State} (h : exec i s = .next t) :
    t.inputs = s.inputs ∧ t.cycle = s.cycle := by
  cases i with
  | cycle => simp only [exec, execCycle] at h; split at h <;> cases h <;> exact ⟨rfl, rfl⟩
  | dbAccept x => cases h; exact ⟨by simp, by simp⟩
  | _ => cases h; exact ⟨rfl, rfl⟩

/-- So this cycle's input vector is the same before and after every operation of the step. -/
theorem exec_keeps_input {i : Instr} {s t : State} (h : exec i s = .next t) : t.input = s.input :=
  State.input_congr (exec_keeps_environment h).1 (exec_keeps_environment h).2

/-- The sub-block an operation belongs to (10_state.md R31); RESET belongs to all. -/
inductive Writer where
  | all
  | synchronizer
  | qualifier (x : Channel)
  | sequencer
  deriving DecidableEq, Repr

/-- Whose registers an operation writes. -/
def writerOf : Instr → Writer
  | .reset => .all
  | .idle | .toggle | .cycle | .toggleCycle => .sequencer
  | .mtxHold | .mtxDone | .indUpdate | .pnlHold | .pnlDone => .sequencer
  | .syncShift => .synchronizer
  | .dbAccept x | .dbRejectWindow x | .dbRejectReleased x | .dbStalled x => .qualifier x

/-- Only the synchronizer's operation (and RESET) writes the flops. -/
theorem exec_keeps_flops {i : Instr} {s t : State} (h : exec i s = .next t) (hw : writerOf i ≠ .all)
    (hs : writerOf i ≠ .synchronizer) : t.syncA = s.syncA ∧ t.syncB = s.syncB := by
  cases i with
  | reset => exact absurd rfl hw
  | syncShift => exact absurd rfl hs
  | cycle => simp only [exec, execCycle] at h; split at h <;> cases h <;> exact ⟨rfl, rfl⟩
  | dbAccept x => cases h; exact ⟨by simp, by simp⟩
  | _ => cases h; exact ⟨rfl, rfl⟩

/-- Only a channel's own operation (and RESET) writes its record (10_state.md R22). -/
theorem exec_keeps_last {i : Instr} {s t : State} (x : Channel) (h : exec i s = .next t) (hw : writerOf i ≠ .all)
    (hq : writerOf i ≠ .qualifier x) : t.last x = s.last x := by
  cases i with
  | reset => exact absurd rfl hw
  | cycle => simp only [exec, execCycle] at h; split at h <;> cases h <;> cases x <;> rfl
  | dbAccept y =>
    cases h
    exact State.last_setLast_of_ne s (fun e => hq (by rw [e]; rfl)) _
  | _ => cases h; cases x <;> rfl

/-- Only the sequencer's operations (and RESET) write the fan state, the phase, the snapshot buffer and the lamp. -/
theorem exec_keeps_sequencer {i : Instr} {s t : State} (h : exec i s = .next t) (hw : writerOf i ≠ .all)
    (hs : writerOf i ≠ .sequencer) :
    t.power = s.power ∧ t.speed = s.speed ∧ t.phase = s.phase ∧ t.fbPower = s.fbPower ∧ t.fbSpeed = s.fbSpeed ∧
      t.led = s.led := by
  cases i with
  | reset => exact absurd rfl hw
  | dbAccept x => cases h; exact ⟨by simp, by simp, by simp, by simp, by simp, by simp⟩
  | syncShift => cases h; exact ⟨rfl, rfl, rfl, rfl, rfl, rfl⟩
  | dbRejectWindow _ => cases h; exact ⟨rfl, rfl, rfl, rfl, rfl, rfl⟩
  | dbRejectReleased _ => cases h; exact ⟨rfl, rfl, rfl, rfl, rfl, rfl⟩
  | dbStalled _ => cases h; exact ⟨rfl, rfl, rfl, rfl, rfl, rfl⟩
  | _ => exact absurd rfl hs

/-- Performing a list whose first operation completes. -/
theorem perform_cons {i : Instr} {is : List Instr} {s t : State} (h : exec i s = .next t) :
    perform (i :: is) s = perform is t := by
  simp [perform, h]

/-- The step under reset, as one operation. -/
theorem step_of_reset {s : State} (h : s.input.rst = true) : step s = endCycle (exec .reset s) := by
  rw [step, State.operations_of_reset h]; rfl

/-- The step without reset, as its four operations. -/
theorem step_of_noReset {s : State} (h : s.input.rst = false) :
    step s = endCycle (perform [.syncShift, decodeDb .a (s.dsel .a), decodeDb .b (s.dsel .b), decodeSeq s.sel] s) := by
  rw [step, State.operations_of_noReset h]

end Sys2Proof.Machine
end

