-- ==== Sys2Proof/Laws/Outputs.lean ====
section
/-! SUPPORT. What the Moore outputs show. -/

namespace Sys2Proof.Machine

/-- Reset is synchronous, so the Moore outputs of a cycle show the state of that cycle. -/
@[simp] theorem State.visible_eq (s : State) : s.visible = s := rfl

/-- The output ports as functions of this cycle's state. -/
theorem State.outputs_eq (s : State) :
    s.outputs =
      { mtxReq := s.mtxReq, mtxGlyph := s.frameIndex, mtxPattern := Config.GLYPH s.frameIndex
        mtxColor := colorBus (Config.COLOR s.frameIndex), ledR := s.led.getLsbD 2, ledG := s.led.getLsbD 1
        ledB := s.led.getLsbD 0, pnlReq := s.pnlReq, pnlPower := s.fbPower, pnlSpeed := s.pnlSpeed, power := s.power
        speed := s.speed, busy := s.busy, evA := s.ev .a, evB := s.ev .b } := by
  simp [State.outputs]

end Sys2Proof.Machine
end

