-- ==== Sys2Proof/Laws/PerInstr.lean ====
section
/-! SUPPORT. Families of statements about every operation as syntax, one lemma per constructor. -/

namespace Sys2Proof.Laws.TableWord

/-- The row's `match` word is a well-formed select word inside the row's `mask`, and decodes to the operation. -/
def Statement (i : Instr) : Prop :=
  i.wf = true ∧ (encode i).wf = true ∧ encodeWith i 0 = encode i ∧ decode (encode i) = .ok i

theorem reset : Statement .reset := ⟨rfl, rfl, rfl, rfl⟩
theorem idle : Statement .idle := ⟨rfl, rfl, rfl, rfl⟩
theorem toggle : Statement .toggle := ⟨rfl, rfl, rfl, rfl⟩
theorem cycle : Statement .cycle := ⟨rfl, rfl, rfl, rfl⟩
theorem toggleCycle : Statement .toggleCycle := ⟨rfl, rfl, rfl, rfl⟩
theorem mtxHold : Statement .mtxHold := ⟨rfl, rfl, rfl, rfl⟩
theorem mtxDone : Statement .mtxDone := ⟨rfl, rfl, rfl, rfl⟩
theorem indUpdate : Statement .indUpdate := ⟨rfl, rfl, rfl, rfl⟩
theorem pnlHold : Statement .pnlHold := ⟨rfl, rfl, rfl, rfl⟩
theorem pnlDone : Statement .pnlDone := ⟨rfl, rfl, rfl, rfl⟩
theorem syncShift : Statement .syncShift := ⟨rfl, rfl, rfl, rfl⟩
theorem dbAccept (x : Channel) : Statement (.dbAccept x) := by cases x <;> exact ⟨rfl, rfl, rfl, rfl⟩
theorem dbRejectWindow (x : Channel) : Statement (.dbRejectWindow x) := by cases x <;> exact ⟨rfl, rfl, rfl, rfl⟩
theorem dbRejectReleased (x : Channel) : Statement (.dbRejectReleased x) := by cases x <;> exact ⟨rfl, rfl, rfl, rfl⟩
theorem dbStalled (x : Channel) : Statement (.dbStalled x) := by cases x <;> exact ⟨rfl, rfl, rfl, rfl⟩

end Sys2Proof.Laws.TableWord
end

