-- ==== Sys2Proof/Laws/Runs.lean ====
section
/-! SUPPORT. Runs: unrolling a run at its far end, and cutting it in two. -/

namespace Sys2Proof.Machine

@[simp] theorem stateAt_zero (s : State) : stateAt 0 s = s := rfl

/-- The last step of a run. -/
theorem stateAt_succ (k : Nat) (s : State) : stateAt (k + 1) s = nextState (stateAt k s) := by
  induction k generalizing s with
  | zero => rfl
  | succ k ih => rw [stateAt, ih]; rfl

/-- A run in two parts. -/
theorem stateAt_add (j k : Nat) (s : State) : stateAt (j + k) s = stateAt k (stateAt j s) := by
  induction k with
  | zero => rfl
  | succ k ih => rw [← Nat.add_assoc, stateAt_succ, ih, stateAt_succ]

@[simp] theorem countCycles_zero (p : State → Bool) (s : State) : countCycles p 0 s = 0 := rfl

/-- A count at the far end of the run. -/
theorem countCycles_succ (p : State → Bool) (n : Nat) (s : State) :
    countCycles p (n + 1) s = countCycles p n s + (p (stateAt n s)).toNat := by
  induction n generalizing s with
  | zero => simp [countCycles]
  | succ n ih => rw [countCycles, ih, countCycles, stateAt]; omega

/-- A count never falls as the run goes on. -/
theorem countCycles_mono (p : State → Bool) {m n : Nat} (h : m ≤ n) (s : State) :
    countCycles p m s ≤ countCycles p n s := by
  induction n, h using Nat.le_induction with
  | base => exact Nat.le_refl _
  | succ n _ ih => rw [countCycles_succ]; omega

@[simp] theorem framesRendered_zero (s : State) : framesRendered 0 s = [] := rfl

/-- The frames at the far end of the run. -/
theorem framesRendered_succ (n : Nat) (s : State) :
    framesRendered (n + 1) s =
      framesRendered n s ++ (bif (stateAt n s).render then [(stateAt (n + 1) s).frameIndex] else []) := by
  induction n generalizing s with
  | zero => simp [framesRendered, stateAt]
  | succ n ih => rw [framesRendered, ih, framesRendered]; simp [stateAt]

/-- A shorter run is without reset too. -/
theorem NoReset.mono {m n : Nat} {s : State} (h : NoReset n s) (hm : m ≤ n) : NoReset m s :=
  fun k hk => h k (Nat.lt_of_lt_of_le hk hm)

/-- One unit of `now` is one millisecond (60_exceptions.md R214). -/
@[simp] theorem div_nowUnit (t : Nat) : t / Config.NOW_UNIT_MS = t := Nat.div_one t

/-- What a clock in milliseconds makes of `now`. -/
theorem ClockMonotone.now_eq {τ : Nat → Nat} {n k : Nat} {s : State} (h : ClockMonotone τ n s) (hk : k < n) :
    (stateAt k s).input.now = BitVec.ofNat Config.TSW (τ k) := by
  simpa using h.1 k hk

end Sys2Proof.Machine
end

