-- ==== Sys2Proof/Tests/Slice0.lean ====
section
/-! SUPPORT. The model's own tests: ill-formed words refused, words written out from spec/30_encoding.md rule R86, one
step on the vectors of spec/95_test_vectors.md, and for every statement with hypotheses a state that meets them. Every
expected value is the spec's. -/

namespace Sys2Proof.Tests

open Sys2Proof.Machine

/-! ## Small states -/

/-- An input vector without reset: the two lines (`false` = pressed), `now`, `mtx_done`, `pnl_done`. -/
def iv (a b : Bool) (t : Nat) (md pd : Bool) : InputVector := ⟨false, a, b, BitVec.ofNat Config.TSW t, md, pd⟩

/-- A synchronizer by its first and its last flop. -/
def chain (first last : Bool) : SyncChain := BitVec.ofBool last ++ BitVec.ofBool first

/-- A poll cycle at `now` = 1000 with the window of both channels open, at `(power, speed) = (p, v)`, the flops reading
`pa` and `pb` pressed, the buffer at `(p, 2)`, done lines at 1. -/
def polling (p : Bool) (v : SpeedCode) (pa pb : Bool) : State :=
  { State.reset with syncA := chain true (!pa), syncB := chain true (!pb), power := p, speed := v, fbPower := p, fbSpeed := 2
                     inputs := [iv true true 1000 true true] }

/-- A cycle of phase `ph` with the buffer at `(p, v)`, both buttons pressed with the window open, and the given done
lines. -/
def stalled (ph : Phase) (p : Bool) (v : SpeedCode) (md pd : Bool) : State :=
  { State.reset with syncA := chain true false, syncB := chain true false, power := p, speed := v, phase := ph
                     fbPower := p, fbSpeed := v, inputs := [iv true true 1000 md pd] }

/-- One channel of a poll cycle as section 2.1 of 95_test_vectors.md gives it: `pressed`, `last`, `now`, on both
channels. -/
def qualifying (pressed : Bool) (last now : Nat) : State :=
  { State.reset with syncA := chain true (!pressed), syncB := chain true (!pressed)
                     lastA := BitVec.ofNat Config.TSW last, lastB := BitVec.ofNat Config.TSW last
                     inputs := [iv true true now false false] }

/-- The state after P1 cycle 18 (V60), under reset with both lines pressed. -/
def busyUnderReset : State :=
  { State.reset with syncA := chain true false, lastA := 2700, lastB := 2000, speed := 2, phase := .ind, fbSpeed := 2
                     led := 0b110#3, inputs := [⟨true, false, false, 9000, true, true⟩] }

/-! ## Well-formedness -/

theorem test_wf_refuses_event_beside_reset :
    (SelectWord.seq 0b1001000#7).wf = false ∧ (SelectWord.seq 0b1000100#7).wf = false := by decide
theorem test_wf_refuses_event_outside_poll :
    (SelectWord.seq 0b0011000#7).wf = false ∧ (SelectWord.seq 0b0100100#7).wf = false ∧
      (SelectWord.seq 0b0111100#7).wf = false := by decide
theorem test_wf_refuses_sync_word_one : (SelectWord.sy 1).wf = false := by decide
theorem test_wf_admits_events_in_poll : (SelectWord.seq 0b0001111#7).wf = true := by decide

/-! ## Decoding: words written out from the map of 30_encoding.md R86 -/

theorem test_decode_reset : decode (.seq 0b1000000#7) = .ok .reset ∧ decode (.seq 0b1111111#7) = .ok .reset := by decide
theorem test_decode_idle : decode (.seq 0b0000010#7) = .ok .idle := by decide
theorem test_decode_toggle : decode (.seq 0b0001000#7) = .ok .toggle := by decide
theorem test_decode_cycle : decode (.seq 0b0000101#7) = .ok .cycle := by decide
theorem test_decode_toggleCycle : decode (.seq 0b0001111#7) = .ok .toggleCycle := by decide
theorem test_decode_mtxHold : decode (.seq 0b0011101#7) = .ok .mtxHold := by decide
theorem test_decode_mtxDone : decode (.seq 0b0010011#7) = .ok .mtxDone := by decide
theorem test_decode_indUpdate : decode (.seq 0b0100000#7) = .ok .indUpdate := by decide
theorem test_decode_pnlHold : decode (.seq 0b0110000#7) = .ok .pnlHold := by decide
theorem test_decode_pnlDone : decode (.seq 0b0110011#7) = .ok .pnlDone := by decide
theorem test_decode_syncShift : decode (.sy 0b0#1) = .ok .syncShift := by decide
theorem test_decode_sync_word_one_rejected : decode (.sy 0b1#1) = .error .noSyncOperation := by decide
theorem test_decode_dbAccept : decode (.db .b 0b111#3) = .ok (.dbAccept .b) := by decide
theorem test_decode_dbRejectWindow : decode (.db .a 0b110#3) = .ok (.dbRejectWindow .a) := by decide
theorem test_decode_dbRejectReleased : decode (.db .a 0b100#3) = .ok (.dbRejectReleased .a) := by decide
theorem test_decode_dbStalled : decode (.db .b 0b000#3) = .ok (.dbStalled .b) ∧
    decode (.db .b 0b011#3) = .ok (.dbStalled .b) := by decide

/-- The `match` words of opcode_table.json, by the table's numbering and its widths. -/
theorem test_table_words :
    decodeTableWord 7 0x40 = some .reset ∧ decodeTableWord 7 0x0C = some .toggleCycle ∧
      decodeTableWord 7 0x12 = some .mtxDone ∧ decodeTableWord 7 0x31 = some .pnlDone ∧
      decodeTableWord 1 0 = some .syncShift ∧ decodeTableWord 1 1 = none ∧
      decodeTableWord 3 4 = some (.dbRejectReleased .a) ∧ decodeTableWord 8 7 = some (.dbAccept .a) ∧
      decodeTableWord 8 0x20 = some .indUpdate ∧ decodeTableWord 8 0x80 = none := by decide

/-- The state `withFetchWord` arranges assembles the word. -/
theorem test_withFetchWord :
    (State.reset.withFetchWord 7 0x0E).sel = 0x0E#7 ∧ (State.reset.withFetchWord 8 0x08).sel = 0x08#7 ∧
      (State.reset.withFetchWord 8 0x31).sel = 0x31#7 ∧ (State.reset.withFetchWord 3 6).dsel .a = 6#3 ∧
      (State.reset.withFetchWord 8 7).dsel .a = 7#3 ∧ (State.reset.withFetchWord 1 0).ssel = 0#1 := by decide

/-! ## The sequencer's operations, one step each (95_test_vectors.md 2.3, 2.4, 2.6) -/

theorem test_reset_V60 : SameElements (nextState busyUnderReset) State.reset := by unfold SameElements; decide
theorem test_reset_samples_nothing_V61 :
    (nextState busyUnderReset).sa1 = true ∧ busyUnderReset.ev .a = false := by decide
theorem test_idle_V36_V47 :
    (polling true 3 false false).operations.getLast? = some .idle ∧
    SameElements (nextState (polling true 3 false false)) (polling true 3 false false) := by
  unfold SameElements; decide
theorem test_toggle_V24 :
    let t := nextState (polling false 3 true false)
    (t.power, t.speed, t.fbPower, t.fbSpeed, t.phase) = (true, 3#2, true, 3#2, .mtx) := by decide
theorem test_toggle_V21 :
    let t := nextState (polling true 1 true false)
    (t.power, t.speed, t.fbPower, t.fbSpeed, t.phase) = (false, 1#2, false, 1#2, .mtx) := by decide
theorem test_cycle_on_V28 :
    let t := nextState (polling true 3 false true)
    (t.power, t.speed, t.fbPower, t.fbSpeed, t.phase) = (true, 1#2, true, 1#2, .mtx) := by decide
theorem test_cycle_off_V31 :
    let t := nextState (polling false 3 false true)
    (t.power, t.speed, t.fbPower, t.fbSpeed, t.phase) = (false, 1#2, false, 2#2, .poll) := by decide
theorem test_toggleCycle_V33 :
    let t := nextState (polling false 3 true true)
    (t.power, t.speed, t.fbPower, t.fbSpeed, t.phase) = (true, 1#2, true, 1#2, .mtx) := by decide
theorem test_toggleCycle_V34 :
    let t := nextState (polling true 3 true true)
    (t.power, t.speed, t.fbPower, t.fbSpeed, t.phase) = (false, 1#2, false, 1#2, .mtx) := by decide
theorem test_mtxHold_V41 :
    (nextState (stalled .mtx true 2 false true)).phase = .mtx ∧ (nextState (stalled .mtx true 2 false true)).led = 0#3 := by
  decide
theorem test_mtxDone_V42 :
    (nextState (stalled .mtx true 2 true false)).phase = .ind ∧ (nextState (stalled .mtx true 2 true false)).led = 0#3 := by
  decide
theorem test_indUpdate_V43 :
    (nextState (stalled .ind true 2 false false)).phase = .pnl ∧
      (nextState (stalled .ind true 2 false false)).led = ind (Config.COLOR 2#2) := ⟨rfl, rfl⟩
theorem test_indUpdate_off_P1 : (nextState (stalled .ind false 2 true true)).led = ind (Config.COLOR 0#2) := rfl
theorem test_pnlHold_V45 : (nextState (stalled .pnl true 2 true false)).phase = .pnl := by decide
theorem test_pnlDone_V46 : (nextState (stalled .pnl true 2 false true)).phase = .poll := by decide

/-! ## The debounce filter's operations, one step each (95_test_vectors.md 2.1) -/

/-- P3 cycles 5 and 6: B pressed at one edge of a stall. -/
theorem test_syncShift_P3 :
    let s := { stalled .mtx true 2 false false with
                syncA := chain true true, syncB := chain true true
                inputs := [iv true false 5005 false false, iv true true 5006 false false] }
    let t := nextState s
    let u := nextState t
    (t.sa1, t.sa2, t.sb1, t.sb2) = (true, true, false, true) ∧ (u.sa1, u.sa2, u.sb1, u.sb2) = (true, true, true, false) := by
  decide
theorem test_dbAccept_V4 :
    let s := qualifying true 0 251
    s.ev .a = true ∧ (nextState s).lastA = 251 ∧ s.ev .b = true ∧ (nextState s).lastB = 251 := by decide
theorem test_dbAccept_V9b :
    let s := qualifying true 4294967196 151
    (elapsed s.input.now s.lastA).toNat = 251 ∧ s.ev .a = true ∧ (nextState s).lastA = 151 := by decide
theorem test_dbRejectWindow_V3 :
    let s := qualifying true 0 250
    s.ev .a = false ∧ (nextState s).lastA = 0 ∧ decode (.db .b (s.dsel .b)) = .ok (.dbRejectWindow .b) := by decide
theorem test_dbRejectWindow_V9a :
    let s := qualifying true 4294967196 150
    (elapsed s.input.now s.lastA).toNat = 250 ∧ s.ev .a = false ∧ (nextState s).lastA = 4294967196 := by decide
theorem test_dbRejectReleased_V7 :
    let s := qualifying false 0 100000
    s.windowOpen .a = true ∧ s.ev .a = false ∧ (nextState s).lastA = 0 ∧
      decode (.db .a (s.dsel .a)) = .ok (.dbRejectReleased .a) := by decide
theorem test_dbStalled_V8 :
    let s := { qualifying true 0 100000 with phase := .mtx }
    s.windowOpen .a = true ∧ s.ev .a = false ∧ (nextState s).lastA = 0 ∧
      decode (.db .a (s.dsel .a)) = .ok (.dbStalled .a) := by decide

/-! ## Outputs (95_test_vectors.md 2.5) -/

theorem test_outputs_V51 :
    let o := (stalled .pnl false 2 false false).outputs
    o.mtxGlyph = 0 ∧ o.pnlPower = false ∧ o.pnlSpeed = 0 ∧ o.speed = 2 ∧ o.pnlReq = true ∧ o.mtxReq = false := by decide
theorem test_outputs_V55 :
    let o := (stalled .mtx true 3 false false).outputs
    o.mtxGlyph = 3 ∧ o.pnlPower = true ∧ o.pnlSpeed = 3 ∧ o.mtxReq = true ∧ o.busy = true := by decide
theorem test_colorBus_V54 : colorBus ⟨255, 191, 0⟩ = 0xFFBF00#24 := by decide
theorem test_ind_values : ind ⟨0, 0, 0⟩ = 0b000#3 ∧ ind ⟨1, 1, 0⟩ = 0b110#3 ∧ ind ⟨255, 255, 255⟩ = 0b111#3 := by decide
theorem test_nxt_values : nxt 1 = 2 ∧ nxt 3 = 1 := by decide
theorem test_pixelBuffer_length (o : Outputs) : o.pixelBuffer.length = 25 := by
  simp [Outputs.pixelBuffer, Config.NCELL]

/-! ## Witnesses: a state that meets the hypotheses of each statement that has any -/

theorem witness_StepUnderResetIsResetAlone : busyUnderReset.input.rst = true := by decide

theorem witness_CycleAdvancesSpeedAndCapturesOnlyWhenOn :
    (polling true 3 false true).power = true ∧ (polling false 3 false true).power = false := by decide

theorem witness_IndUpdateLoadsTheLampFromTheFrame :
    (stalled .ind true 3 false false).fbPower = true ∧ (stalled .ind false 3 false false).fbPower = false := by decide

theorem witness_AssembledSelectWordsAreWellFormed :
    .db .b 0b101#3 ∈ (polling true 1 true false).selectWords ∧ .seq 0b0001011#7 ∈ (polling true 1 true false).selectWords ∧
      .sy 0b0#1 ∈ (polling true 1 true false).selectWords ∧ .seq 0b1100011#7 ∈ busyUnderReset.selectWords := by decide

theorem witness_StepPerformsTheDecodedOperations :
    busyUnderReset.input.rst = true ∧ (polling true 1 true false).input.rst = false ∧
      decode (.db .a ((polling true 1 true false).dsel .a)) = .ok (.dbAccept .a) ∧
      decode (.db .b ((polling true 1 true false).dsel .b)) = .ok (.dbRejectReleased .b) ∧
      decode (.seq (polling true 1 true false).sel) = .ok .toggle := by decide

theorem witness_OperationsOfAStepCommute :
    decodeSeq 0b0001111#7 ≠ .reset ∧
      [decodeSeq 0b0001111#7, decodeDb .b 0b111#3, decodeDb .a 0b111#3, .syncShift].Perm
        [.syncShift, decodeDb .a 0b111#3, decodeDb .b 0b111#3, decodeSeq 0b0001111#7] := by decide

theorem witness_DecodeAndEncodeAgree :
    Instr.wf (.dbAccept .b) = true ∧ decode (.db .b 0b010#3) = .ok (.dbStalled .b) ∧
      encodeWith .mtxHold 0b0001100#7 = encodeWith .mtxHold 0b1111100#7 := by decide

theorem witness_EveryStepKeepsTheInvariant :
    Inv (stalled .mtx true 2 true false) ∧
      step (stalled .mtx true 2 true false) = .next (nextState (stalled .mtx true 2 true false)) :=
  ⟨by constructor <;> decide, rfl⟩

/-- The same elements and inputs, other model fields. -/
theorem witness_OutputsAreDeterminedByElementsAndInputs :
    let s := polling true 3 true false
    let t := { polling true 3 true false with cycle := 7 }
    SameElements s t ∧ ∀ k < 1, (stateAt k s).input = (stateAt k t).input := by unfold SameElements; decide

theorem witness_ChannelOperationFollowsItsSignals :
    busyUnderReset.input.rst = true ∧
      (stalled .mtx true 2 false false).input.rst = false ∧ (stalled .mtx true 2 false false).phase ≠ .poll ∧
      (qualifying false 0 251).phase = .poll ∧ (qualifying false 0 251).pressed .a = false ∧
      (qualifying true 0 250).pressed .a = true ∧ (qualifying true 0 250).windowOpen .a = false ∧
      (qualifying true 0 251).pressed .b = true ∧ (qualifying true 0 251).windowOpen .b = true ∧
      (qualifying true 0 251).input.rst = false := by decide

/-- Two histories of channel A's first flop, one reading now. -/
theorem witness_EventDependsOnNoEarlierLevel :
    let s := { qualifying true 0 251 with syncA := chain true false }
    let t := { qualifying true 0 251 with syncA := chain false false, lastB := 5 }
    s.phase = t.phase ∧ s.level .a = t.level .a ∧ s.last .a = t.last .a ∧ s.input = t.input := by decide

/-- Two states and inputs that differ on channel B's side only, and two that differ on channel A's. -/
theorem witness_ChannelsDoNotInterfere :
    let s := qualifying true 0 251
    let t := { qualifying true 0 251 with syncB := chain false true, lastB := 9, power := true
                                          inputs := [iv true false 251 true true] }
    let u := { qualifying true 0 251 with syncA := chain false true, lastA := 9, power := true
                                          inputs := [iv false true 251 true true] }
    (s.phase = t.phase ∧ s.input.rst = t.input.rst ∧ s.input.now = t.input.now ∧ s.input.btnA = t.input.btnA ∧
      s.syncA = t.syncA ∧ s.lastA = t.lastA) ∧
    (s.phase = u.phase ∧ s.input.rst = u.input.rst ∧ s.input.now = u.input.now ∧ s.input.btnB = u.input.btnB ∧
      s.syncB = u.syncB ∧ s.lastB = u.lastB) := by decide

/-- Both lines pressed at one edge; two cycles later both channels read it with the window just open. -/
def pressedOnce : State :=
  { State.reset with inputs := [iv false false 1 true true, iv true true 2 true true, iv true true 251 true true] }

theorem witness_LineLevelIsReadTwoCyclesLater :
    NoReset Config.SYNC_STAGES pressedOnce ∧ pressedOnce.input.btnA = false ∧ pressedOnce.input.btnB = false ∧
      (stateAt 2 pressedOnce).pollEn = true ∧ (stateAt 2 pressedOnce).windowOpen .a = true ∧
      (stateAt 2 pressedOnce).windowOpen .b = true := by unfold NoReset Config.SYNC_STAGES; decide

/-- The two sides of the boundary 251. -/
theorem witness_WindowAfterResetOpensAtTimestampAboveWindow :
    let s := { State.reset with inputs := [iv true true 250 true true] }
    let t := { State.reset with inputs := [iv true true 251 true true] }
    exec .reset s = .next s ∧ exec .reset t = .next t ∧ s.windowOpen .a = false ∧ t.windowOpen .a = true :=
  ⟨rfl, rfl, by decide, by decide⟩

/-- Input B held while off: events at 251 and at 502, no stall. -/
def heldWhileOff : State :=
  { State.reset with syncB := chain false false, inputs := [iv true false 251 true true, iv true false 502 true true] }

theorem witness_EventsOfAChannelAreMoreThanWindowApart :
    ClockMonotone (fun k => 251 + 251 * k) 2 heldWhileOff ∧ NoReset 2 heldWhileOff ∧ heldWhileOff.ev .b = true ∧
      (stateAt 1 heldWhileOff).ev .b = true := by
  refine ⟨⟨by decide, fun j k _ _ => ?_⟩, by unfold NoReset; decide, by decide, by decide⟩
  simp only; omega

/-- Input B held while off over the milliseconds 251 and 252: `t0` = 251, `L` = 1. -/
def heldBriefly : State :=
  { State.reset with syncB := chain false false, inputs := [iv true false 251 true true, iv true false 252 true true] }

theorem witness_HeldButtonFiresOncePerWindow :
    ClockMonotone (fun k => 251 + k) 2 heldBriefly ∧ NoReset 2 heldBriefly ∧ heldBriefly.ev .b = true ∧
      (∀ k < 2, (stateAt k heldBriefly).phase = .poll → (stateAt k heldBriefly).pressed .b = true ∧ k ≤ 1) ∧
      (∀ m ≤ 1, ∃ k < 2, (stateAt k heldBriefly).phase = .poll ∧ k = m) := by
  refine ⟨⟨by decide, fun j k _ _ => ?_⟩, by unfold NoReset; decide, by decide, by decide, by decide⟩
  simp only; omega

theorem witness_SpeedSuccessorWraps : SpeedLegal 0b01#2 ∧ SpeedLegal 0b11#2 := by decide

theorem witness_PollCycleWithoutEventIsIdle :
    let s := polling true 3 false false
    s.phase = .poll ∧ s.input.rst = false ∧ s.ev .a = false ∧ s.ev .b = false := by decide

theorem witness_PollCycleWithEventOnAToggles :
    (qualifying true 0 251).ev .a = true ∧ (polling true 3 true false).ev .a = true ∧
      (polling true 3 true false).ev .b = false := by decide

theorem witness_PollCycleWithEventOnBCycles :
    (polling true 3 false true).ev .a = false ∧ (polling true 3 false true).ev .b = true ∧
      (polling true 3 false true).power = true ∧ (polling false 3 false true).ev .a = false ∧
      (polling false 3 false true).ev .b = true ∧ (polling false 3 false true).power = false := by decide

theorem witness_PollCycleWithBothEventsRendersOnce :
    (polling false 3 true true).ev .a = true ∧ (polling false 3 true true).ev .b = true := by decide

/-- Every cell of the table has a state. -/
theorem witness_PollCycleTransitionTable :
    ∀ (p : Bool) (v : SpeedCode) (a b : Bool), (polling p v a b).phase = .poll ∧ (polling p v a b).input.rst = false ∧
      (polling p v a b).power = p ∧ (polling p v a b).speed = v ∧ (polling p v a b).ev .a = a ∧
      (polling p v a b).ev .b = b := by decide

theorem witness_FanStateChangesOnlyOnEvents :
    (let s := polling true 3 true true
     s.input.rst = false ∧ step s = .next (nextState s) ∧ (nextState s).power ≠ s.power ∧ (nextState s).speed ≠ s.speed) ∧
    (let s := stalled .mtx true 3 false false
     s.input.rst = false ∧ step s = .next (nextState s) ∧ s.phase ≠ .poll) :=
  ⟨⟨by decide, rfl, by decide, by decide⟩, by decide, rfl, by decide⟩

/-- Events on both channels in one poll cycle, then the three cycles of its dispatch. -/
theorem witness_FanStateCountsItsEvents :
    let s := { polling true 3 true true with
                inputs := [iv true false 1000 true true, iv false true 1001 true true, iv true true 1002 true true,
                  iv true true 1003 true true] }
    NoReset 4 s ∧ countCycles (State.ev .a) 4 s = 1 ∧ countCycles (State.ev .b) 4 s = 1 := by unfold NoReset; decide

/-- Input A held while the renderers are instant: toggles at cycles 0 and 4. -/
def heldA : State :=
  { State.reset with
    syncA := chain false false
    inputs := [iv false true 300 true true, iv false true 301 true true, iv false true 302 true true,
      iv false true 303 true true, iv false true 551 true true] }

theorem witness_TwoTogglesAreARoundTrip :
    NoReset 5 heldA ∧ countCycles (State.ev .a) 5 heldA = 2 ∧ countCycles (State.ev .b) 5 heldA = 0 := by
  unfold NoReset; decide

/-- Input B held while on and the renderers are instant: cycles at cycles 0, 4 and 8. -/
def heldB : State :=
  { State.reset with
    syncB := chain false false, power := true, fbPower := true
    inputs := [iv true false 300 true true, iv true false 301 true true, iv true false 302 true true,
      iv true false 303 true true, iv true false 551 true true, iv true false 552 true true, iv true false 553 true true,
      iv true false 554 true true, iv true false 802 true true] }

theorem witness_ThreeCyclesWhileOnWrapAround :
    NoReset 9 heldB ∧ heldB.power = true ∧ SpeedLegal heldB.speed ∧ countCycles (State.ev .a) 9 heldB = 0 ∧
      countCycles (State.ev .b) 9 heldB = 3 := by unfold NoReset; decide

/-- Off: an event on B, then one on A. -/
theorem witness_CyclingWhileOffIsInvisible :
    let s := { State.reset with
                syncB := chain true false
                inputs := [iv false true 300 true true, iv true true 301 true true, iv true true 302 true true] }
    NoReset 2 s ∧ s.phase = .poll ∧ s.power = false ∧ countCycles (State.ev .a) 2 s = 0 ∧
      countCycles (State.ev .b) 2 s = 1 ∧ (stateAt 2 s).ev .a = true ∧ (stateAt 2 s).ev .b = false := by
  unfold NoReset; decide

theorem witness_AllSixFanStatesAreReachable : SpeedLegal 1#2 ∧ SpeedLegal 2#2 ∧ SpeedLegal 3#2 := by decide

theorem witness_RenderCapturesTheNewState :
    (let s := polling true 3 false true
     s.input.rst = false ∧ step s = .next (nextState s) ∧ s.render = true) ∧
    (let s := polling false 3 false true
     s.input.rst = false ∧ step s = .next (nextState s) ∧ s.render = false) :=
  ⟨⟨by decide, rfl, by decide⟩, by decide, rfl, by decide⟩

theorem witness_MatrixWaitEndsOnMtxDoneOnly :
    (stalled .mtx true 2 false true).phase = .mtx ∧ (stalled .mtx true 2 false true).input.rst = false ∧
      (stalled .mtx true 2 false true).input.mtxDone = false ∧ (stalled .mtx true 2 true false).input.mtxDone = true := by
  decide

theorem witness_IndicatorUpdateTakesOneCycle :
    (stalled .ind true 2 false false).phase = .ind ∧ (stalled .ind true 2 false false).input.rst = false := by decide

theorem witness_PanelWaitEndsOnPnlDoneOnly :
    (stalled .pnl true 2 true false).phase = .pnl ∧ (stalled .pnl true 2 true false).input.rst = false ∧
      (stalled .pnl true 2 true false).input.pnlDone = false ∧ (stalled .pnl true 2 false true).input.pnlDone = true := by
  decide

/-- A step of each of the four moves. -/
theorem witness_PhaseMovesInFourWaysAndLampInOne :
    ∀ s ∈ [polling true 3 true false, stalled .mtx true 2 true false, stalled .ind true 2 false false,
      stalled .pnl true 2 false true], s.input.rst = false ∧ (nextState s).phase ≠ s.phase := by decide

theorem witness_InputsOfAnotherPhaseAreIgnored :
    let i := iv true false 1 true false
    let j := iv true false 2 true true
    i.rst = false ∧ j.rst = false ∧ i.btnA = j.btnA ∧ i.btnB = j.btnB ∧ i.mtxDone = j.mtxDone ∧
      (stalled .mtx true 2 false false).phase = .mtx ∧ (stalled .ind true 2 false false).phase = .ind ∧
      (polling true 2 false false).phase = .poll ∧ (iv true false 1 false false).now = i.now ∧
      (stalled .pnl true 2 false false).phase = .pnl ∧ (iv true false 9 false false).pnlDone = i.pnlDone ∧
      busyUnderReset.input.rst = true := by decide

/-- A matrix of two cycles and a panel of three. -/
def slowDispatch : State :=
  { stalled .mtx true 2 false false with
    inputs := [iv true true 1000 false true, iv true true 1001 true false, iv true true 1002 false false,
      iv true true 1003 true false, iv true true 1004 true false, iv true true 1005 true true] }

theorem witness_DispatchDeliversOneFrameInOrder :
    slowDispatch.phase = .mtx ∧ NoReset (2 + 1 + 3) slowDispatch ∧
      (∀ k < 2, (stateAt k slowDispatch).input.mtxDone = decide (k + 1 = 2)) ∧
      (∀ k < 3, (stateAt (2 + 1 + k) slowDispatch).input.pnlDone = decide (k + 1 = 3)) := by unfold NoReset; decide

/-- Three cycles of an unanswered request, of either kind. -/
def unanswered (ph : Phase) (md pd : Bool) : State :=
  { stalled ph true 2 md pd with
    inputs := [iv false true 1000 md pd, iv true false 1300 md pd, iv false false 1600 md pd] }

theorem witness_UnansweredRequestWaitsForEver :
    (NoReset 3 (unanswered .mtx false true) ∧ (unanswered .mtx false true).phase = .mtx ∧
      ∀ k < 3, (stateAt k (unanswered .mtx false true)).input.mtxDone = false) ∧
    (NoReset 3 (unanswered .pnl true false) ∧ (unanswered .pnl true false).phase = .pnl ∧
      ∀ k < 3, (stateAt k (unanswered .pnl true false)).input.pnlDone = false) := by unfold NoReset; decide

theorem witness_EveryRenderIsDeliveredOnceToEachDevice :
    NoReset 4 heldA ∧ heldA.phase = .poll ∧ (stateAt 4 heldA).phase = .poll ∧ countCycles State.render 4 heldA = 1 := by
  unfold NoReset; decide

theorem witness_LampAgreesAfterAnIndicatorUpdate :
    let s := stateAt 2 slowDispatch
    NoReset 4 s ∧ 1 ≤ countCycles (fun t => decide (t.phase = .ind)) 1 s ∧ (stateAt 1 s).phase = .pnl ∧
      (stateAt 4 s).phase = .poll := by unfold NoReset; decide

theorem witness_OutputPortsAreTheSpecFunctions :
    (stalled .mtx true 2 false false).fbPower = true ∧ (stalled .mtx false 2 false false).fbPower = false ∧
      SpeedLegal (stalled .mtx true 2 false false).fbSpeed := by decide

/-- The fan state has moved on, the snapshot has not. -/
theorem witness_InterfacesShowTheSnapshotOnly :
    let s := polling false 1 false false
    let t := polling false 3 false true
    s.phase = t.phase ∧ s.fbPower = t.fbPower ∧ s.fbSpeed = t.fbSpeed ∧ s.led = t.led := by decide

end Sys2Proof.Tests
end

section
/-! SUPPORT. The operations as functions on the state, and why those of one step commute (spec/00_scope.md R10,
spec/10_state.md R31). -/

namespace Sys2Proof.Machine

/-! ## What an operation leaves: no operation stops, so its outcome is a state -/

/-- The state in which operation `i` leaves the block. -/
def after (s : State) (i : Instr) : State :=
  match exec i s with
  | .next t => t
  | .fault _ => s
  | .refused _ => s

/-- Every operation completes (60_exceptions.md R200). -/
theorem exec_eq_after (i : Instr) (s : State) : exec i s = .next (after s i) := by
  cases i with
  | cycle => rw [after, exec, execCycle]; split <;> rfl
  | _ => rfl

@[simp] theorem after_reset (s : State) : after s .reset = s.resetElements := rfl
@[simp] theorem after_idle (s : State) : after s .idle = s := rfl
@[simp] theorem after_toggle (s : State) :
    after s .toggle = (s.setFan (!s.power) s.speed).capture (!s.power) s.speed := rfl
@[simp] theorem after_toggleCycle (s : State) :
    after s .toggleCycle = (s.setFan (!s.power) (nxt s.speed)).capture (!s.power) (nxt s.speed) := rfl
@[simp] theorem after_mtxHold (s : State) : after s .mtxHold = s := rfl
@[simp] theorem after_mtxDone (s : State) : after s .mtxDone = s.setPhase .ind := rfl
@[simp] theorem after_indUpdate (s : State) :
    after s .indUpdate = (s.setLed (ind (Config.COLOR s.frameIndex))).setPhase .pnl := rfl
@[simp] theorem after_pnlHold (s : State) : after s .pnlHold = s := rfl
@[simp] theorem after_pnlDone (s : State) : after s .pnlDone = s.setPhase .poll := rfl
@[simp] theorem after_syncShift (s : State) : after s .syncShift = s.shiftSync := rfl
@[simp] theorem after_dbAccept (s : State) (x : Channel) : after s (.dbAccept x) = s.setLast x s.input.now := rfl
@[simp] theorem after_dbRejectWindow (s : State) (x : Channel) : after s (.dbRejectWindow x) = s := rfl
@[simp] theorem after_dbRejectReleased (s : State) (x : Channel) : after s (.dbRejectReleased x) = s := rfl
@[simp] theorem after_dbStalled (s : State) (x : Channel) : after s (.dbStalled x) = s := rfl

/-- CYCLE captures a frame only while on (41_fsm_transitions.md R136). -/
@[simp] theorem after_cycle (s : State) :
    after s .cycle =
      if s.power then (s.setFan s.power (nxt s.speed)).capture true (nxt s.speed)
      else s.setFan s.power (nxt s.speed) := by
  rw [after, exec, execCycle]
  cases s.power <;> rfl

@[simp] theorem input_after (s : State) (i : Instr) : (after s i).input = s.input :=
  exec_keeps_input (exec_eq_after i s)

/-- Performing a list of operations is a fold over it. -/
theorem perform_eq_foldl (is : List Instr) (s : State) : perform is s = .next (is.foldl after s) := by
  induction is generalizing s with
  | nil => rfl
  | cons i is ih => rw [perform_cons (exec_eq_after i s), ih, List.foldl_cons]

/-! ## Operations of different sub-blocks commute -/

/-- The synchronizers' shift may come before or after an operation of another sub-block. -/
theorem after_shiftSync (s : State) {i : Instr} (hw : writerOf i ≠ .all) (hs : writerOf i ≠ .synchronizer) :
    after s.shiftSync i = (after s i).shiftSync := by
  cases i with
  | reset => exact absurd rfl hw
  | syncShift => exact absurd rfl hs
  | cycle =>
    rw [after_cycle, after_cycle, State.shiftSync_power]
    split <;> rfl
  | dbAccept x => exact (State.shiftSync_setLast s x _).symm
  | _ => rfl

/-- The write of channel `x`'s record may come before or after an operation of another sub-block. -/
theorem after_setLast (s : State) (x : Channel) (t : Timestamp) {i : Instr} (hw : writerOf i ≠ .all)
    (hq : writerOf i ≠ .qualifier x) : after (s.setLast x t) i = (after s i).setLast x t := by
  cases i with
  | reset => exact absurd rfl hw
  | cycle =>
    rw [after_cycle, after_cycle, State.setLast_power]
    split <;> cases x <;> rfl
  | dbAccept y =>
    have hxy : x ≠ y := fun e => hq (by rw [e]; rfl)
    rw [after_dbAccept, after_dbAccept, State.input_setLast, State.setLast_comm s hxy]
  | _ => cases x <;> rfl

/-- The synchronizer's operation and a channel's commute with every operation of another sub-block. -/
theorem after_comm_of_not_sequencer (s : State) {i j : Instr} (hi : writerOf i ≠ .all) (hj : writerOf j ≠ .all)
    (hij : writerOf i ≠ writerOf j) (hs : writerOf i ≠ .sequencer) : after (after s i) j = after (after s j) i := by
  cases i with
  | reset => exact absurd rfl hi
  | syncShift => exact after_shiftSync s hj hij.symm
  | dbAccept x =>
    rw [after_dbAccept, after_dbAccept, input_after]
    exact after_setLast s x _ hj hij.symm
  | dbRejectWindow | dbRejectReleased | dbStalled => rfl
  | _ => exact absurd rfl hs

/-- Operations of different sub-blocks commute: neither reads or writes what the other writes (10_state.md R31). -/
theorem after_comm (s : State) {i j : Instr} (hi : writerOf i ≠ .all) (hj : writerOf j ≠ .all)
    (hij : writerOf i ≠ writerOf j) : after (after s i) j = after (after s j) i := by
  by_cases hs : writerOf i = .sequencer
  · exact (after_comm_of_not_sequencer s hj hi hij.symm (fun h => hij (hs.trans h.symm))).symm
  · exact after_comm_of_not_sequencer s hi hj hij hs

/-- Operations of pairwise different sub-blocks, RESET not among them, may be performed in any order. -/
theorem perform_perm {is js : List Instr} (hp : is.Perm js) (hall : Writer.all ∉ is.map writerOf)
    (hnd : (is.map writerOf).Nodup) (s : State) : perform is s = perform js s := by
  have not_all : ∀ i ∈ is, writerOf i ≠ .all := fun i hi e => hall (e ▸ List.mem_map_of_mem hi)
  have comm : ∀ i ∈ is, ∀ j ∈ is, ∀ t, after (after t i) j = after (after t j) i := by
    intro i hi j hj t
    by_cases hij : writerOf i = writerOf j
    · rw [List.inj_on_of_nodup_map hnd hi hj hij]
    · exact after_comm t (not_all i hi) (not_all j hj) hij
  rw [perform_eq_foldl, perform_eq_foldl, hp.foldl_eq' comm]

/-! ## The operations of a step belong to different sub-blocks -/

@[simp] theorem writerOf_syncShift : writerOf .syncShift = .synchronizer := rfl

@[simp] theorem writerOf_decodeDb (x : Channel) (w : BitVec 3) : writerOf (decodeDb x w) = .qualifier x := by
  unfold decodeDb; split <;> rfl

/-- Every `SEQ` operation but RESET is the sequencer's. -/
theorem writerOf_decodeSeq {w : BitVec 7} (h : decodeSeq w ≠ .reset) : writerOf (decodeSeq w) = .sequencer := by
  revert w; decide

/-- The sub-blocks of the four operations of a step without reset. -/
theorem map_writerOf_step (wa wb : BitVec 3) {w : BitVec 7} (h : decodeSeq w ≠ .reset) :
    [.syncShift, decodeDb .a wa, decodeDb .b wb, decodeSeq w].map writerOf =
      [.synchronizer, .qualifier .a, .qualifier .b, .sequencer] := by
  simp only [List.map_cons, List.map_nil, writerOf_decodeDb, writerOf_decodeSeq h, writerOf_syncShift]

/-- The four operations of a step in any other order. -/
theorem perform_step_perm (s : State) (wa wb : BitVec 3) {w : BitVec 7} (h : decodeSeq w ≠ .reset) {is : List Instr}
    (hp : is.Perm [.syncShift, decodeDb .a wa, decodeDb .b wb, decodeSeq w]) :
    perform is s = perform [.syncShift, decodeDb .a wa, decodeDb .b wb, decodeSeq w] s := by
  have hm := map_writerOf_step wa wb h
  exact (perform_perm hp.symm (by rw [hm]; decide) (by rw [hm]; decide) s).symm

end Sys2Proof.Machine
end

section
/-! SUPPORT. The step as the spec's next-state equations. -/

namespace Sys2Proof.Machine

/-- The operation of channel `x` writes the record exactly on an event (40_debounce.md R107 to R110). -/
theorem after_decodeDb_dsel (s t : State) (x : Channel) :
    after t (decodeDb x (s.dsel x)) = if s.ev x then t.setLast x t.input.now else t := by
  rw [State.decodeDb_dsel, State.ev]
  cases s.pollEn <;> cases s.pressed x <;> cases s.windowOpen x <;> rfl

/-! ## The sequencer: outside POLL there is no event, so the fan state holds and no render starts -/

theorem State.powerN_of_busy {s : State} (h : s.phase ≠ .poll) : s.powerN = s.power := by
  simp [State.powerN, State.ev_of_busy h]

theorem State.speedN_of_busy {s : State} (h : s.phase ≠ .poll) : s.speedN = s.speed := by
  simp [State.speedN, State.ev_of_busy h]

theorem State.render_of_busy {s : State} (h : s.phase ≠ .poll) : s.render = false := by
  simp [State.render, State.ev_of_busy h]

/-- What the sequencer's registers become (41_fsm_transitions.md R132, R133; 42_dispatch.md R161, R164; 10_state.md
R28), the synchronizers and the records as they were. -/
def sequencerTransfer (s : State) : State :=
  { s with
    power := s.powerN
    speed := s.speedN
    phase := s.phaseN
    fbPower := if s.render then s.powerN else s.fbPower
    fbSpeed := if s.render then s.speedN else s.fbSpeed
    led := if s.phase = .ind then ind (Config.COLOR s.frameIndex) else s.led }

/-- In POLL the events choose among the four operations of the fan state machine. -/
theorem after_decodeSeq_sel_of_poll {s : State} (h : s.input.rst = false) (hp : s.phase = .poll) :
    after s (decodeSeq s.sel) = sequencerTransfer s := by
  rw [State.decodeSeq_sel h, sequencerTransfer, State.phaseN, State.render, State.powerN, State.speedN, hp]
  cases s.ev .a <;> cases s.ev .b
  case false.false => rw [Bool.xor_false]; exact congrArg s.setPhase hp
  case false.true => cases hw : s.power <;> simp [State.setFan, State.capture, hw, hp]
  case true.false => simp [State.setFan, State.capture]
  case true.true => simp [State.setFan, State.capture]

/-- In a busy phase the phase and, in IND, the lamp are all that the sequencer writes. -/
theorem after_decodeSeq_sel_of_busy {s : State} (h : s.input.rst = false) (hp : s.phase ≠ .poll) :
    after s (decodeSeq s.sel) = sequencerTransfer s := by
  rw [State.decodeSeq_sel h, sequencerTransfer, State.phaseN, State.render_of_busy hp, State.powerN_of_busy hp,
    State.speedN_of_busy hp]
  cases hph : s.phase with
  | poll => exact absurd hph hp
  | mtx =>
    cases s.input.mtxDone with
    | false => exact congrArg s.setPhase hph
    | true => rfl
  | ind => rfl
  | pnl =>
    cases s.input.pnlDone with
    | false => exact congrArg s.setPhase hph
    | true => rfl

/-- The operation of the sequencer, by the spec's equations. -/
theorem after_decodeSeq_sel {s : State} (h : s.input.rst = false) :
    after s (decodeSeq s.sel) = sequencerTransfer s := by
  by_cases hp : s.phase = .poll
  · exact after_decodeSeq_sel_of_poll h hp
  · exact after_decodeSeq_sel_of_busy h hp

/-- Without reset the sequencer's operation is not RESET. -/
theorem decodeSeq_sel_ne_reset {s : State} (h : s.input.rst = false) : decodeSeq s.sel ≠ .reset := by
  rw [State.decodeSeq_sel h]
  split
  · split <;> split <;> nofun
  · split <;> nofun
  · nofun
  · split <;> nofun

/-- A step without reset, the sequencer's operation taken first: it reads nothing the others write. -/
theorem step_eq_sequencer_first {s : State} (h : s.input.rst = false) :
    step s = .next
      ([decodeSeq s.sel, .syncShift, decodeDb .a (s.dsel .a), decodeDb .b (s.dsel .b)].foldl after s).advance := by
  have hp : [decodeSeq s.sel, .syncShift, decodeDb .a (s.dsel .a), decodeDb .b (s.dsel .b)].Perm
      [.syncShift, decodeDb .a (s.dsel .a), decodeDb .b (s.dsel .b), decodeSeq s.sel] :=
    (List.perm_append_singleton _ _).symm
  rw [step_of_noReset h, ← perform_step_perm s _ _ (decodeSeq_sel_ne_reset h) hp, perform_eq_foldl, endCycle]

/-- One step is one application of the spec's equations, in every state (00_scope.md R10). -/
theorem step_eq_registerTransfer (s : State) : step s = .next (registerTransfer s) := by
  cases h : s.input.rst with
  | true => rw [step_of_reset h, registerTransfer, if_pos h]; rfl
  | false =>
    rw [step_eq_sequencer_first h, registerTransfer, if_neg (by simp [h])]
    simp only [List.foldl_cons, List.foldl_nil, after_decodeSeq_sel h, after_decodeDb_dsel, after_syncShift,
      sequencerTransfer]
    cases s.ev .a <;> cases s.ev .b <;> rfl

end Sys2Proof.Machine
end

section
/-! SUPPORT. What a run shows depends on the twelve elements and the inputs alone (spec/00_scope.md R10, R15). -/

namespace Sys2Proof.Machine

theorem nextState_eq_registerTransfer (s : State) : nextState s = registerTransfer s := by
  rw [nextState, step_eq_registerTransfer]

/-- A state with the same elements differs in the model's own fields only. -/
theorem SameElements.eq_withEnvironment {s t : State} (h : SameElements s t) :
    t = { s with inputs := t.inputs, cycle := t.cycle } := by
  obtain ⟨⟨hsA, hsB⟩, ⟨hlA, hlB⟩, ⟨hp, hv, hph⟩, ⟨hfp, hfv⟩, hled⟩ := h
  rw [hsA, hsB, hlA, hlB, hp, hv, hph, hfp, hfv, hled]

variable {s t : State}

/-- An event depends on the elements and this cycle's input vector. -/
theorem SameElements.ev_eq (h : SameElements s t) (hi : s.input = t.input) (x : Channel) : s.ev x = t.ev x := by
  obtain ⟨⟨hsA, hsB⟩, ⟨hlA, hlB⟩, ⟨-, -, hph⟩, -, -⟩ := h
  cases x <;>
    simp [State.ev, State.pollEn, State.pressed, State.windowOpen, State.sa2, State.sb2, hi, hph, hsA, hsB, hlA, hlB]

/-- So do the output ports. -/
theorem SameElements.outputs_eq (h : SameElements s t) (hi : s.input = t.input) : s.outputs = t.outputs := by
  rw [State.outputs_eq, State.outputs_eq, h.ev_eq hi, h.ev_eq hi, h.eq_withEnvironment]
  rfl

/-- So do the elements after the step. -/
theorem sameElements_registerTransfer (h : SameElements s t) (hi : s.input = t.input) :
    SameElements (registerTransfer s) (registerTransfer t) := by
  have hev := h.ev_eq hi
  obtain ⟨⟨hsA, hsB⟩, ⟨hlA, hlB⟩, ⟨hp, hv, hph⟩, ⟨hfp, hfv⟩, hled⟩ := h
  rw [registerTransfer, registerTransfer, hi]
  split
  · simp [SameElements]
  · simp [SameElements, State.powerN, State.speedN, State.render, State.phaseN, State.frameIndex, hev, hi, hsA, hsB,
      hlA, hlB, hp, hv, hph, hfp, hfv, hled]

/-- The run keeps the agreement of the elements as long as the inputs agree. -/
theorem sameElements_nextState (h : SameElements s t) (hi : s.input = t.input) :
    SameElements (nextState s) (nextState t) := by
  rw [nextState_eq_registerTransfer, nextState_eq_registerTransfer]
  exact sameElements_registerTransfer h hi

/-- The same elements and the same inputs for `n` cycles give the same outputs for `n` cycles. -/
theorem SameElements.outputsOf_eq (n : Nat) (h : SameElements s t)
    (hi : ∀ k < n, (stateAt k s).input = (stateAt k t).input) : outputsOf n s = outputsOf n t := by
  induction n generalizing s t with
  | zero => rfl
  | succ n ih =>
    have h0 : s.input = t.input := hi 0 (Nat.succ_pos n)
    rw [outputsOf, outputsOf, h.outputs_eq h0,
      ih (sameElements_nextState h h0) fun k hk => hi (k + 1) (Nat.succ_lt_succ hk)]

end Sys2Proof.Machine
end

section
/-! SUPPORT. The statements of spec/00_scope.md settled. -/

namespace Sys2Proof.Machine

/-! ## Reset in the cycle and at its end (00_scope.md R7) -/

@[simp] theorem input_withInput (s : State) (i : InputVector) : (s.withInput i).input = i := rfl

/-- A step under reset leads to the reset state, whatever the state. -/
theorem sameElements_nextState_of_reset {s : State} (h : s.input.rst = true) :
    SameElements (nextState s) State.reset := by
  rw [nextState_eq_registerTransfer, registerTransfer, if_pos h]
  simp [SameElements]

/-- Within the cycle `rst` makes the event pulses 0 and changes no other output (decision D27). -/
theorem outputs_withInput_rst (s : State) (i : InputVector) :
    (s.withInput { i with rst := true }).outputs =
      { (s.withInput { i with rst := false }).outputs with evA := false, evB := false } := by
  have hev (x : Channel) : (s.withInput { i with rst := true }).ev x = false := State.ev_of_reset rfl
  rw [State.outputs_eq, State.outputs_eq, hev, hev]
  rfl

/-- Settles O21: the sequencer's operation is taken first, which is no other state since the operations commute; each
operation is then one group of the spec's equations. -/
theorem stepIsTheRegisterTransferMachine : Obligations.StepIsTheRegisterTransferMachine :=
  step_eq_registerTransfer

/-- Settles O23, by induction on the number of cycles: runs of the same elements on the same inputs keep the same
elements. -/
theorem outputsAreDeterminedByElementsAndInputs : Obligations.OutputsAreDeterminedByElementsAndInputs :=
  fun n _ _ h hi => h.outputsOf_eq n hi

/-- Settles O18: the four operations belong to different sub-blocks, and operations of different sub-blocks commute. -/
theorem operationsOfAStepCommute : Obligations.OperationsOfAStepCommute :=
  fun s wa wb _ _ hr hp => perform_step_perm s wa wb hr hp

/-- Settles O58: at the high level the step is RESET; within the cycle only the event pulses read `rst`. -/
theorem resetIsActiveHighAndSynchronous : Obligations.ResetIsActiveHighAndSynchronous := fun s i =>
  ⟨by simp, by simp, sameElements_nextState_of_reset rfl, outputs_withInput_rst s i⟩

end Sys2Proof.Machine
end

section
/-! SUPPORT. What a step without reset makes of each of the sequencer's elements, and the ways the phase can move
(spec/10_state.md R28, R30). -/

namespace Sys2Proof.Machine

/-- The state a step answers is the next state. -/
theorem eq_nextState_of_step {s t : State} (h : step s = .next t) : t = nextState s := by
  rw [nextState, h]

variable {s : State}

/-! ## The next state, field by field -/

theorem nextState_power (h : s.input.rst = false) : (nextState s).power = s.powerN := by
  simp [nextState_eq_registerTransfer, registerTransfer, h]

theorem nextState_speed (h : s.input.rst = false) : (nextState s).speed = s.speedN := by
  simp [nextState_eq_registerTransfer, registerTransfer, h]

theorem nextState_phase (h : s.input.rst = false) : (nextState s).phase = s.phaseN := by
  simp [nextState_eq_registerTransfer, registerTransfer, h]

theorem nextState_fbPower (h : s.input.rst = false) :
    (nextState s).fbPower = if s.render then s.powerN else s.fbPower := by
  simp [nextState_eq_registerTransfer, registerTransfer, h]

theorem nextState_fbSpeed (h : s.input.rst = false) :
    (nextState s).fbSpeed = if s.render then s.speedN else s.fbSpeed := by
  simp [nextState_eq_registerTransfer, registerTransfer, h]

theorem nextState_led (h : s.input.rst = false) :
    (nextState s).led = if s.phase = .ind then ind (Config.COLOR s.frameIndex) else s.led := by
  simp [nextState_eq_registerTransfer, registerTransfer, h]

/-! ## The fan state where no render starts (41_fsm_transitions.md R132, R133) -/

/-- Without a render there is no event on A, and one on B only if the block is off. -/
theorem State.render_eq_false_iff :
    s.render = false ↔ s.ev .a = false ∧ (s.ev .b = true → s.power = false) := by
  rw [State.render, State.powerN]
  cases s.ev .a <;> cases s.ev .b <;> simp

theorem State.powerN_of_not_render (h : s.render = false) : s.powerN = s.power := by
  rw [State.powerN, (render_eq_false_iff.mp h).1, Bool.xor_false]

/-- On, every event on B renders: without a render the speed stays. -/
theorem State.speedN_of_not_render_of_on (h : s.render = false) (hp : s.power = true) : s.speedN = s.speed := by
  have hb : s.ev .b ≠ true := fun hb => by simp [(render_eq_false_iff.mp h).2 hb] at hp
  rw [State.speedN, if_neg hb]

/-- A render starts in a poll cycle only. -/
theorem State.phase_of_render (h : s.render = true) : s.phase = .poll := by
  by_contra hp
  simp [render_of_busy hp] at h

/-- The frame in the buffer changes on a render only (42_dispatch.md R161). -/
theorem nextState_frameIndex_of_not_render (h : s.input.rst = false) (hr : s.render = false) :
    (nextState s).frameIndex = s.frameIndex := by
  simp [State.frameIndex, nextState_fbPower h, nextState_fbSpeed h, hr]

/-! ## The moves of the phase -/

/-- Where the phase goes: it stays, outside IND and with no render, or makes one of its four moves (10_state.md R28). -/
theorem State.phaseN_cases (s : State) :
    (s.phaseN = s.phase ∧ s.phase ≠ .ind ∧ s.render = false) ∨
      (s.phase = .poll ∧ s.phaseN = .mtx ∧ s.render = true) ∨
      (s.phase = .mtx ∧ s.phaseN = .ind ∧ s.input.mtxDone = true) ∨
      (s.phase = .ind ∧ s.phaseN = .pnl) ∨
      (s.phase = .pnl ∧ s.phaseN = .poll ∧ s.input.pnlDone = true) := by
  cases hp : s.phase with
  | poll => cases hr : s.render <;> simp [State.phaseN, hp, hr]
  | mtx => cases hd : s.input.mtxDone <;> simp [State.phaseN, hp, hd, State.render_of_busy]
  | ind => simp [State.phaseN, hp]
  | pnl => cases hd : s.input.pnlDone <;> simp [State.phaseN, hp, hd, State.render_of_busy]

/-- A render leads to MTX, so no other phase follows one. -/
theorem State.render_of_phaseN_ne_mtx (h : s.phaseN ≠ .mtx) : s.render = false := by
  by_contra hr
  have hr : s.render = true := by simpa using hr
  exact h (by simp [State.phaseN, phase_of_render hr, hr])

/-- PNL follows IND, or PNL itself. -/
theorem State.phase_of_phaseN_pnl (h : s.phaseN = .pnl) : s.phase = .ind ∨ s.phase = .pnl := by
  obtain ⟨hs, -, -⟩ | ⟨-, hn, -⟩ | ⟨-, hn, -⟩ | ⟨hp, -⟩ | ⟨-, hn, -⟩ := s.phaseN_cases
  · exact .inr (hs ▸ h)
  · simp [hn] at h
  · simp [hn] at h
  · exact .inl hp
  · simp [hn] at h

/-- POLL follows POLL itself, or PNL. -/
theorem State.phase_of_phaseN_poll (h : s.phaseN = .poll) : s.phase = .poll ∨ s.phase = .pnl := by
  obtain ⟨hs, -, -⟩ | ⟨-, hn, -⟩ | ⟨-, hn, -⟩ | ⟨-, hn⟩ | ⟨hp, -, -⟩ := s.phaseN_cases
  · exact .inl (hs ▸ h)
  · simp [hn] at h
  · simp [hn] at h
  · simp [hn] at h
  · exact .inr hp

/-! ## The lamp and the frame -/

/-- Where no render starts, the lamp agrees with the buffer after the step exactly if IND has just loaded it or it
agreed before: neither is written otherwise. -/
theorem lampAgrees_nextState_iff (h : s.input.rst = false) (hr : s.render = false) :
    (nextState s).lampAgrees ↔ s.phase = .ind ∨ s.lampAgrees := by
  rw [State.lampAgrees, nextState_led h, nextState_frameIndex_of_not_render h hr]
  by_cases hp : s.phase = .ind <;> simp [hp]

end Sys2Proof.Machine
end

section
/-! SUPPORT. The invariant of the reachable states (spec/10_state.md R35): it holds in the reset state and every step
keeps it. -/

namespace Sys2Proof.Machine

variable {s : State}

theorem inv_reset : Inv State.reset where
  fbPower_eq := rfl
  fbSpeed_on := nofun
  fbSpeed_busy _ := rfl
  speed_legal := by decide
  fbSpeed_legal := by decide
  lamp_pnl := nofun
  lamp_poll _ := .inr ⟨rfl, rfl⟩

/-- The invariant speaks of the twelve elements only. -/
theorem Inv.of_sameElements {s t : State} (h : SameElements s t) (ht : Inv t) : Inv s := by
  rw [h.eq_withEnvironment] at ht
  obtain ⟨h1, h2, h3, h4, h5, h6, h7⟩ := ht
  exact ⟨h1, h2, h3, h4, h5, h6, h7⟩

/-- The successor of a legal speed is legal (41_fsm_transitions.md R131). -/
theorem speedLegal_nxt {v : SpeedCode} (h : SpeedLegal v) : SpeedLegal (nxt v) := by
  revert v; decide

/-- The speed stays legal whether or not there is an event on B. -/
theorem Inv.speedLegal_speedN (hi : Inv s) : SpeedLegal s.speedN := by
  rw [State.speedN]
  split
  · exact speedLegal_nxt hi.speed_legal
  · exact hi.speed_legal

/-- A render captures the new fan state and enters MTX, where nothing is asked of the lamp. -/
theorem Inv.nextState_of_render (hi : Inv s) (h : s.input.rst = false) (hr : s.render = true) :
    Inv (nextState s) := by
  have hfb : (nextState s).fbSpeed = (nextState s).speed := by
    rw [nextState_fbSpeed h, nextState_speed h, if_pos hr]
  have hspeed : SpeedLegal (nextState s).speed := nextState_speed h ▸ hi.speedLegal_speedN
  have hphase : (nextState s).phase = .mtx := by
    simp [nextState_phase h, State.phaseN, State.phase_of_render hr, hr]
  exact {
    fbPower_eq := by rw [nextState_fbPower h, nextState_power h, if_pos hr]
    fbSpeed_on := fun _ => hfb
    fbSpeed_busy := fun _ => hfb
    speed_legal := hspeed
    fbSpeed_legal := hfb ▸ hspeed
    lamp_pnl := fun hp => by simp [hphase] at hp
    lamp_poll := fun hp => by simp [hphase] at hp }

/-- Without a render the buffer stays, and so does the fan state but for a speed that cycles in POLL while off. -/
theorem Inv.nextState_of_not_render (hi : Inv s) (h : s.input.rst = false) (hr : s.render = false) :
    Inv (nextState s) := by
  have hfbPower : (nextState s).fbPower = s.fbPower := by simp [nextState_fbPower h, hr]
  have hfbSpeed : (nextState s).fbSpeed = s.fbSpeed := by simp [nextState_fbSpeed h, hr]
  have hpower : (nextState s).power = s.power := by rw [nextState_power h, State.powerN_of_not_render hr]
  constructor
  case fbPower_eq => rw [hfbPower, hpower, hi.fbPower_eq]
  case fbSpeed_on =>
    intro hon
    have hon : s.power = true := hpower ▸ hon
    rw [hfbSpeed, nextState_speed h, State.speedN_of_not_render_of_on hr hon, hi.fbSpeed_on hon]
  case fbSpeed_busy =>
    intro hp
    have hbusy : s.phase ≠ .poll := fun hpoll => hp (by simp [nextState_phase h, State.phaseN, hpoll, hr])
    rw [hfbSpeed, nextState_speed h, State.speedN_of_busy hbusy, hi.fbSpeed_busy hbusy]
  case speed_legal => exact nextState_speed h ▸ hi.speedLegal_speedN
  case fbSpeed_legal => exact hfbSpeed ▸ hi.fbSpeed_legal
  case lamp_pnl =>
    intro hp
    rw [nextState_phase h] at hp
    exact (lampAgrees_nextState_iff h hr).mpr ((State.phase_of_phaseN_pnl hp).imp_right hi.lamp_pnl)
  case lamp_poll =>
    intro hp
    rw [nextState_phase h] at hp
    obtain hpoll | hpnl := State.phase_of_phaseN_poll hp
    · refine (hi.lamp_poll hpoll).imp (fun ha => (lampAgrees_nextState_iff h hr).mpr (.inr ha)) ?_
      rintro ⟨hdark, hoff⟩
      exact ⟨by simp [nextState_led h, hpoll, hdark], hfbPower.trans hoff⟩
    · exact .inl ((lampAgrees_nextState_iff h hr).mpr (.inr (hi.lamp_pnl hpnl)))

/-- Every step keeps the invariant. -/
theorem Inv.nextState (hi : Inv s) : Inv (nextState s) := by
  cases h : s.input.rst with
  | true => exact inv_reset.of_sameElements (sameElements_nextState_of_reset h)
  | false =>
    cases hr : s.render with
    | true => exact hi.nextState_of_render h hr
    | false => exact hi.nextState_of_not_render h hr

end Sys2Proof.Machine
end

section
/-! SUPPORT. The statements of spec/10_state.md settled. -/

namespace Sys2Proof.Machine

/-! ## The lamp along a run (10_state.md R35 (e)) -/

/-- From one cycle to the next: in PNL or POLL the lamp agrees with the buffer if IND has just loaded it, or if it
agreed in PNL or POLL before. -/
theorem lampAgrees_nextState {s : State} (h : s.input.rst = false)
    (hs : s.phase = .ind ∨ (s.phase = .pnl ∨ s.phase = .poll → s.lampAgrees))
    (hn : (nextState s).phase = .pnl ∨ (nextState s).phase = .poll) : (nextState s).lampAgrees := by
  rw [nextState_phase h] at hn
  have hr : s.render = false := State.render_of_phaseN_ne_mtx (by obtain hn | hn := hn <;> simp [hn])
  rw [lampAgrees_nextState_iff h hr]
  obtain hind | hlamp := hs
  · exact .inl hind
  obtain hn | hn := hn
  · exact (State.phase_of_phaseN_pnl hn).imp_right fun hp => hlamp (.inl hp)
  · exact .inr (hlamp (State.phase_of_phaseN_poll hn).symm)

/-- Once a lamp update has run without reset the lamp agrees with the buffer in PNL and POLL. -/
theorem lampAgrees_stateAt (n : Nat) {s : State} (h : NoReset n s)
    (hc : 1 ≤ countCycles (fun t => decide (t.phase = .ind)) n s)
    (hp : (stateAt n s).phase = .pnl ∨ (stateAt n s).phase = .poll) : (stateAt n s).lampAgrees := by
  induction n with
  | zero => simp at hc
  | succ n ih =>
    rw [stateAt_succ] at hp ⊢
    refine lampAgrees_nextState (h n n.lt_succ_self) ?_ hp
    by_cases hind : (stateAt n s).phase = .ind
    · exact .inl hind
    · exact .inr (ih (h.mono n.le_succ) (by simpa [countCycles_succ, hind] using hc))

/-! ## Inputs that lead to each fan state (10_state.md R34) -/

/-- The input of cycle `k` where line B is low in the first `n` cycles and then, if the block is to be switched `on`,
line A in one. The clock moves by more than a window from cycle to cycle, so that every pressed reading in POLL is an
event, and every request is answered at once. -/
def cyclingThenTogglingInput (n : Nat) (on : Bool) (k : Nat) : InputVector where
  rst := false
  btnA := !(on && k == n)
  btnB := decide (n ≤ k)
  now := BitVec.ofNat Config.TSW ((Config.WINDOW + 1) * k)
  mtxDone := true
  pnlDone := true

/-- From reset: `v - 1` events on B while off, an event on A if `p`, and the four cycles of the render it starts. -/
def inputsLeadingTo (p : Bool) (v : SpeedCode) : List InputVector :=
  (List.range (v.toNat - 1 + 6)).map (cyclingThenTogglingInput (v.toNat - 1) p)

/-- Settles O44: cycling while off reaches every speed without a render, and a toggle then switches on; the six runs are
evaluated. -/
theorem allSixFanStatesAreReachable : Obligations.AllSixFanStatesAreReachable := by
  intro p v hv
  refine ⟨inputsLeadingTo p v, ?_⟩
  unfold NoReset
  revert p v
  decide

/-- Settles O22: under reset by the reset state's invariant, otherwise by whether a render starts. -/
theorem everyStepKeepsTheInvariant : Obligations.EveryStepKeepsTheInvariant := fun _ _ hi h =>
  eq_nextState_of_step h ▸ hi.nextState

/-- Settles O54, by induction on the run: IND loads the lamp from the buffer, and the next render, which may change the
buffer, leaves POLL. -/
theorem lampAgreesAfterAnIndicatorUpdate : Obligations.LampAgreesAfterAnIndicatorUpdate :=
  fun n _ h hc hp => lampAgrees_stateAt n h hc hp

/-- Settles O49: a step that is no move leaves the phase, and the lamp is written in IND only. -/
theorem phaseMovesInFourWaysAndLampInOne : Obligations.PhaseMovesInFourWaysAndLampInOne := by
  intro s t h hst
  rw [eq_nextState_of_step hst, nextState_phase h, nextState_led h]
  constructor
  · intro hne
    exact s.phaseN_cases.resolve_left fun ⟨hstay, _⟩ => hne hstay
  · intro hne
    have hind : s.phase = .ind := by
      by_contra hp
      exact hne (if_neg hp)
    exact ⟨hind, if_pos hind⟩

/-- Settles O1, by the definition of the reset state. -/
theorem resetStateHasTheSpecValues : Obligations.ResetStateHasTheSpecValues := by
  unfold Obligations.ResetStateHasTheSpecValues
  decide

/-- Settles O3, clause by clause: off and polling, only the dark lamp and the legal codes are left to see. -/
theorem resetStateMeetsInvariant : Obligations.ResetStateMeetsInvariant := inv_reset

/-- Settles O56: every port but the four observation ports is a function of the phase, the buffer and the lamp. -/
theorem interfacesShowTheSnapshotOnly : Obligations.InterfacesShowTheSnapshotOnly := by
  intro s t hphase hfbPower hfbSpeed hled
  simp [State.outputs_eq, State.mtxReq, State.pnlReq, State.busy, State.pnlSpeed, State.frameIndex, hphase, hfbPower,
    hfbSpeed, hled]

end Sys2Proof.Machine
end

section
/-! SUPPORT. Decoder and encoder agree (spec/30_encoding.md R86), the bits of the assembled select words (R84, R85,
R88), and the colour bus (R83). -/

namespace Sys2Proof

/-! ## The decoder reads no don't-care bit, and a word is an encoding of what it decodes to -/

/-- Filling the bits outside a mask changes no bit inside it. -/
theorem fill_and_mask {n : Nat} {v m : BitVec n} (hv : v &&& m = v) (fill : BitVec n) :
    (v ||| (fill &&& ~~~m)) &&& m = v := by
  rw [BitVec.and_or_distrib_right, hv, BitVec.and_assoc, BitVec.and_comm (~~~m), BitVec.and_not_self]
  simp

/-- An operation's `match` word lies inside its mask, and every `SEQ` word that agrees with it there decodes to the
operation: the decoder is the table's mask-and-match test (spec/opcode_table.json). -/
theorem decodeSeq_of_match {i : Instr} {v : BitVec 7} (h : encode i = .seq v) :
    v &&& careBits i = v ∧ ∀ w, w &&& careBits i = v → decodeSeq w = i := by
  cases i with
  | reset | idle | toggle | cycle | toggleCycle | mtxHold | mtxDone | indUpdate | pnlHold | pnlDone =>
    cases h; exact ⟨rfl, by decide⟩
  | _ => cases h

/-- The same of `DB` words, whose mask has three bits. -/
theorem decodeDb_of_match {i : Instr} {x : Channel} {v : BitVec 3} (h : encode i = .db x v) :
    v &&& (careBits i).setWidth 3 = v ∧ ∀ w, w &&& (careBits i).setWidth 3 = v → decodeDb x w = i := by
  cases i with
  | dbAccept y | dbRejectWindow y | dbRejectReleased y | dbStalled y =>
    cases h; cases x <;> exact ⟨rfl, by decide⟩
  | _ => cases h

/-- Of the `SY` word no bit is free. -/
theorem decodeSy_of_match {i : Instr} {v : BitVec 1} (h : encode i = .sy v) :
    v &&& (careBits i).setWidth 1 = v ∧ ∀ w, w &&& (careBits i).setWidth 1 = v → decodeSy w = .ok i := by
  cases i with
  | syncShift => cases h; exact ⟨rfl, by decide⟩
  | _ => cases h

/-- Whatever fills the don't-care bits, the encoding of an operation decodes to it. -/
theorem decode_encodeWith (i : Instr) (fill : BitVec 7) : decode (encodeWith i fill) = .ok i := by
  cases h : encode i with
  | seq v =>
    obtain ⟨hv, hdecode⟩ := decodeSeq_of_match h
    simp only [encodeWith, h, decode]
    rw [hdecode _ (fill_and_mask hv _)]
  | sy v =>
    obtain ⟨hv, hdecode⟩ := decodeSy_of_match h
    simp only [encodeWith, h, decode, BitVec.setWidth_and, BitVec.setWidth_not (show 1 ≤ 7 by decide)]
    rw [hdecode _ (fill_and_mask hv _)]
  | db x v =>
    obtain ⟨hv, hdecode⟩ := decodeDb_of_match h
    simp only [encodeWith, h, decode, BitVec.setWidth_and, BitVec.setWidth_not (show 3 ≤ 7 by decide)]
    rw [hdecode _ (fill_and_mask hv _)]

/-- A `SEQ` word is its operation's encoding, its own bits taken for the don't-care bits. -/
theorem encodeWith_decodeSeq (w : BitVec 7) : encodeWith (decodeSeq w) w = .seq w := by
  revert w; decide

/-- So is a `DB` word. -/
theorem encodeWith_decodeDb (x : Channel) (w : BitVec 3) : encodeWith (decodeDb x w) (w.setWidth 7) = .db x w := by
  cases x <;> revert w <;> decide

/-- The one `SY` word that decodes is 0, to SYNC_SHIFT. -/
theorem eq_of_decodeSy_eq_ok {w : BitVec 1} {i : Instr} (h : decodeSy w = .ok i) : w = 0 ∧ i = .syncShift := by
  unfold decodeSy at h
  split at h
  · next hw => exact ⟨hw, (Except.ok.inj h).symm⟩
  · cases h

/-- A word that decodes to an operation is one of the operation's encodings. -/
theorem exists_encodeWith_of_decode {w : SelectWord} {i : Instr} (h : decode w = .ok i) :
    ∃ fill : BitVec 7, encodeWith i fill = w := by
  cases w with
  | seq w => cases h; exact ⟨w, encodeWith_decodeSeq w⟩
  | db x w => cases h; exact ⟨w.setWidth 7, encodeWith_decodeDb x w⟩
  | sy w =>
    obtain ⟨rfl, rfl⟩ := eq_of_decodeSy_eq_ok h
    exact ⟨0, rfl⟩

/-- No word is an encoding of two operations: it decodes to one. -/
theorem encodeWith_inj {i j : Instr} {f g : BitVec 7} (h : encodeWith i f = encodeWith j g) : i = j := by
  have hij : Except.ok (ε := Reject) i = .ok j := by rw [← decode_encodeWith i f, h, decode_encodeWith]
  exact Except.ok.inj hij

namespace Machine

/-! ## The select words of a state -/

variable (s : State)

/-- The phase's place in `sel`, above the four low bits. -/
theorem State.sel_phase : s.sel.extractLsb' 4 2 = s.phase.code := by
  unfold State.sel
  repeat rw [BitVec.extractLsb'_append_eq_of_le (by decide)]
  exact BitVec.extractLsb'_append_eq_right

/-- The bits of `sel` (30_encoding.md R84). -/
theorem State.sel_bits :
    s.sel.getLsbD 6 = s.input.rst ∧ s.sel.extractLsb' 4 2 = s.phase.code ∧ s.sel.getLsbD 3 = s.ev .a ∧
      s.sel.getLsbD 2 = s.ev .b ∧ s.sel.getLsbD 1 = s.input.mtxDone ∧ s.sel.getLsbD 0 = s.input.pnlDone := by
  refine ⟨?_, s.sel_phase, ?_⟩ <;> simp only [State.sel, BitVec.getLsbD_append] <;> simp

/-- The bits of `dsel_x` (30_encoding.md R85). -/
theorem State.dsel_bits (x : Channel) :
    (s.dsel x).getLsbD 2 = s.pollEn ∧ (s.dsel x).getLsbD 1 = s.pressed x ∧ (s.dsel x).getLsbD 0 = s.windowOpen x := by
  simp only [State.dsel, BitVec.getLsbD_append]
  simp

/-- The synchronizer's word is `rst` (30_encoding.md R85). -/
theorem State.ssel_eq : s.ssel = BitVec.ofBool s.input.rst := by
  rw [State.ssel, State.resetActive_eq]

/-- `poll_en` is 1 in a cycle of POLL without reset (40_debounce.md R105). -/
theorem State.pollEn_eq_true_iff : s.pollEn = true ↔ s.phase = .poll ∧ s.input.rst = false := by
  simp [State.pollEn]

/-- `sel` can occur: in a poll cycle `rst` and the phase bits are 0, in any other the event bits are (30_encoding.md
R88). -/
theorem State.wf_sel : (SelectWord.seq s.sel).wf = true := by
  obtain ⟨hrst, hphase, ha, hb, -, -⟩ := s.sel_bits
  rw [SelectWord.wf, hrst, ha, hb]
  cases he : s.pollEn with
  | false => simp [State.ev_of_not_pollEn he]
  | true =>
    obtain ⟨hp, hr⟩ := s.pollEn_eq_true_iff.mp he
    have hzero : s.sel.extractLsb' 4 2 = 0#2 := by rw [hphase, hp]; rfl
    have h5 : s.sel.getLsbD 5 = false := by simpa using congrArg (·.getLsbD 1) hzero
    have h4 : s.sel.getLsbD 4 = false := by simpa using congrArg (·.getLsbD 0) hzero
    rw [hr, h5, h4]
    rfl

variable {s}

/-- With `rst = 1` the sequencer's word decodes to RESET (30_encoding.md R86). -/
theorem State.decodeSeq_sel_of_reset (h : s.input.rst = true) : decodeSeq s.sel = .reset := by
  obtain ⟨hrst, -⟩ := s.sel_bits
  rw [decodeSeq, hrst, h, if_pos rfl]

/-- A word of the step is the sequencer's, a channel's, or, without reset only, the synchronizer's. -/
theorem State.mem_selectWords {w : SelectWord} (h : w ∈ s.selectWords) :
    w = .seq s.sel ∨ (∃ x, w = .db x (s.dsel x)) ∨ (w = .sy s.ssel ∧ s.input.rst = false) := by
  unfold State.selectWords at h
  split at h
  · exact .inl (List.mem_singleton.mp h)
  · next hreset =>
    have hr : s.input.rst = false := by simpa using hreset
    simp only [List.mem_cons, List.not_mem_nil, or_false] at h
    obtain rfl | rfl | rfl | rfl := h
    · exact .inr (.inr ⟨rfl, hr⟩)
    · exact .inr (.inl ⟨.a, rfl⟩)
    · exact .inr (.inl ⟨.b, rfl⟩)
    · exact .inl rfl

/-! ## The step by its operations -/

/-- A step without reset: the four operations in turn, then the end of the cycle. -/
theorem step_eq_after (h : s.input.rst = false) :
    step s = .next (after (after (after (after s .syncShift) (decodeDb .a (s.dsel .a))) (decodeDb .b (s.dsel .b)))
      (decodeSeq s.sel)).advance := by
  rw [step_of_noReset h, perform_eq_foldl]; rfl

/-! ## The colour bus, channel by channel (20_memory.md R54) -/

theorem colorBus_channels (c : ColorTriple) :
    (colorBus c).extractLsb' 16 8 = c.r ∧ (colorBus c).extractLsb' 8 8 = c.g ∧ (colorBus c).extractLsb' 0 8 = c.b := by
  have hlow (n : Nat) : (colorBus c).extractLsb' (n + 8) 8 = (c.r ++ c.g).extractLsb' n 8 :=
    BitVec.extractLsb'_append_eq_of_le (Nat.le_add_left 8 n)
  exact ⟨(hlow 8).trans BitVec.extractLsb'_append_eq_left, (hlow 0).trans BitVec.extractLsb'_append_eq_right,
    BitVec.extractLsb'_append_eq_right⟩

end Machine

end Sys2Proof
end

section
/-! SUPPORT. The statements of spec/30_encoding.md settled. -/

namespace Sys2Proof.Machine

/-- Settles O19: the decoder reads no don't-care bit, and a word's own bits fill its operation's pattern to give the word
back. -/
theorem decodeAndEncodeAgree : Obligations.DecodeAndEncodeAgree :=
  ⟨fun i fill _ => decode_encodeWith i fill, fun _ _ h => exists_encodeWith_of_decode h,
    fun _ _ _ _ h => encodeWith_inj h⟩

/-- Settles O16, word by word: an event needs a poll cycle, and there is a `SY` word only without reset. -/
theorem assembledSelectWordsAreWellFormed : Obligations.AssembledSelectWordsAreWellFormed := by
  intro s w hw
  obtain rfl | ⟨x, rfl⟩ | ⟨rfl, hr⟩ := State.mem_selectWords hw
  · exact ⟨s.wf_sel, _, rfl⟩
  · exact ⟨rfl, _, rfl⟩
  · rw [s.ssel_eq, hr]
    exact ⟨rfl, _, rfl⟩

/-- Settles O15: each bit of a concatenation is a bit of one of its parts. -/
theorem selectWordsHoldTheSpecBits : Obligations.SelectWordsHoldTheSpecBits := fun s =>
  ⟨s.sel_bits, by simp [s.ssel_eq], s.dsel_bits⟩

/-- Settles O17: every operation completes, so the step is its operations one after the other. -/
theorem stepPerformsTheDecodedOperations : Obligations.StepPerformsTheDecodedOperations := by
  refine fun s => ⟨fun h => ⟨congrArg Except.ok (State.decodeSeq_sel_of_reset h), _, rfl, step_of_reset h⟩, ?_⟩
  intro h da db i ha hb hi
  cases ha; cases hb; cases hi
  exact ⟨decodeSeq_sel_ne_reset h, _, _, _, _, exec_eq_after _ _, exec_eq_after _ _, exec_eq_after _ _,
    exec_eq_after _ _, step_eq_after h⟩

/-- Settles O20: the fifteen words are decoded. -/
theorem writtenOutSelectWordsDecode : Obligations.WrittenOutSelectWordsDecode := by
  unfold Obligations.WrittenOutSelectWordsDecode
  decide

/-- Settles O55: the requests and `busy` are tests of the phase, the payloads functions of the buffer; the panel's number
is the frame index, which for a legal speed is 0 only when off. -/
theorem outputPortsAreTheSpecFunctions : Obligations.OutputPortsAreTheSpecFunctions := by
  intro s
  obtain ⟨hr, hg, hb⟩ := colorBus_channels (Config.COLOR s.frameIndex)
  rw [s.outputs_eq]
  have hmtx : s.mtxReq = true ↔ s.phase = .mtx := decide_eq_true_iff
  have hpnl : s.pnlReq = true ↔ s.phase = .pnl := decide_eq_true_iff
  have hnot_both : ¬(s.mtxReq = true ∧ s.pnlReq = true) := fun ⟨hm, hp⟩ =>
    nomatch (hmtx.mp hm).symm.trans (hpnl.mp hp)
  refine ⟨hmtx, hpnl, decide_eq_true_iff, hnot_both, ?_, ?_, rfl, rfl, hr, hg, hb, rfl, rfl, rfl, ?_⟩
  · intro h; simp [State.frameIndex, State.pnlSpeed, idx, h]
  · intro h; simp [State.frameIndex, State.pnlSpeed, idx, h]
  · intro hl
    cases h : s.fbPower <;> simp [State.frameIndex, State.pnlSpeed, idx, h, hl]

end Sys2Proof.Machine
end

section
/-! SUPPORT. The debounce filter's signals, and what a step makes of a channel's flops and record (spec/40_debounce.md
sections 1, 2). -/

namespace Sys2Proof.Machine

/-! ## Elapsed time (40_debounce.md R103) -/

/-- The difference modulo `2^TSW`, written without a negative number. -/
theorem toNat_elapsed (now last : Timestamp) :
    (elapsed now last).toNat = (now.toNat + 2 ^ 32 - last.toNat) % 2 ^ 32 := by
  rw [elapsed, BitVec.toNat_sub, Nat.add_comm, ← Nat.add_sub_assoc last.isLt.le]

/-- Between two readings of a clock that has not run backwards, the time between them, less its wraps. -/
theorem toNat_elapsed_ofNat {t u : Nat} (h : t ≤ u) :
    (elapsed (BitVec.ofNat Config.TSW u) (BitVec.ofNat Config.TSW t)).toNat = (u - t) % 2 ^ 32 := by
  obtain ⟨d, rfl⟩ := Nat.exists_eq_add_of_le' h
  rw [elapsed, BitVec.ofNat_add, BitVec.add_sub_cancel, BitVec.toNat_ofNat, Nat.add_sub_cancel]

variable {s t : State} {x : Channel}

/-! ## The window and the event (40_debounce.md R104, R105) -/

theorem State.windowOpen_eq_true_iff :
    s.windowOpen x = true ↔ 250 < (elapsed s.input.now (s.last x)).toNat :=
  decide_eq_true_iff

/-- The window by the times that `now` and the record stand for. -/
theorem State.windowOpen_iff_of_times {a b : Nat} (hnow : s.input.now = BitVec.ofNat Config.TSW b)
    (hlast : s.last x = BitVec.ofNat Config.TSW a) (h : a ≤ b) :
    s.windowOpen x = true ↔ 250 < (b - a) % 2 ^ 32 := by
  rw [windowOpen_eq_true_iff, hnow, hlast, toNat_elapsed_ofNat h]

theorem State.ev_eq_true_iff :
    s.ev x = true ↔ s.phase = .poll ∧ s.input.rst = false ∧ s.pressed x = true ∧ s.windowOpen x = true := by
  rw [State.ev, Bool.and_eq_true, Bool.and_eq_true, pollEn_eq_true_iff, and_assoc, and_assoc]

/-- An accepted press is seen in a poll cycle. -/
theorem State.phase_of_ev (h : s.ev x = true) : s.phase = .poll :=
  (ev_eq_true_iff.mp h).1

/-- All that a channel's event depends on: of what the channel holds, the level it reads and its record. -/
theorem State.ev_congr (hphase : s.phase = t.phase) (hrst : s.input.rst = t.input.rst)
    (hnow : s.input.now = t.input.now) (hlevel : s.level x = t.level x) (hlast : s.last x = t.last x) :
    s.ev x = t.ev x := by
  rw [State.ev, State.ev, State.pollEn, State.pollEn, State.pressed, State.pressed, State.windowOpen, State.windowOpen,
    resetActive_eq, resetActive_eq, hphase, hrst, hnow, hlevel, hlast]

/-! ## A channel's registers after the step (40_debounce.md R101, R107 to R110) -/

theorem nextState_syncA :
    (nextState s).syncA = if s.input.rst then State.reset.syncA else shiftIn s.syncA s.input.btnA := by
  rw [nextState_eq_registerTransfer, registerTransfer]
  split <;> rfl

theorem nextState_syncB :
    (nextState s).syncB = if s.input.rst then State.reset.syncB else shiftIn s.syncB s.input.btnB := by
  rw [nextState_eq_registerTransfer, registerTransfer]
  split <;> rfl

/-- A record is written by RESET and on an event of its channel. -/
theorem nextState_last :
    (nextState s).last x =
      if s.input.rst then Config.LAST_RESET else if s.ev x then s.input.now else s.last x := by
  rw [nextState_eq_registerTransfer, registerTransfer]
  split <;> cases x <;> rfl

theorem nextState_last_of_ev (h : s.ev x = true) : (nextState s).last x = s.input.now := by
  have hrst : s.input.rst = false := (State.ev_eq_true_iff.mp h).2.1
  rw [nextState_last, hrst, h]
  rfl

theorem nextState_last_of_not_ev (hr : s.input.rst = false) (h : s.ev x = false) :
    (nextState s).last x = s.last x := by
  rw [nextState_last, hr, h]
  rfl

end Sys2Proof.Machine
end

section
/-! SUPPORT. A channel's events along a run on a clock that never runs backwards (spec/40_debounce.md R112, R113). -/

namespace Sys2Proof.Machine

variable {x : Channel} {s : State} {τ : Nat → Nat}

/-- The first cycles of a run on a monotone clock. -/
theorem ClockMonotone.mono {m n : Nat} (h : ClockMonotone τ n s) (hm : m ≤ n) : ClockMonotone τ m s :=
  ⟨fun k hk => h.1 k (hk.trans_le hm), fun j k hjk hk => h.2 j k hjk (hk.trans_le hm)⟩

/-- After an accepted event the record holds the time of a cycle since then: that event's, or a later one's. -/
theorem exists_last_stateAt_eq {n : Nat} (hclock : ClockMonotone τ n s) (hr : NoReset n s) (he : s.ev x = true)
    (hn : 0 < n) : ∃ j < n, (stateAt n s).last x = BitVec.ofNat Config.TSW (τ j) := by
  induction n with
  | zero => exact absurd hn (Nat.lt_irrefl 0)
  | succ k ih =>
    rw [stateAt_succ]
    cases hk : (stateAt k s).ev x with
    | true => exact ⟨k, k.lt_succ_self, by rw [nextState_last_of_ev hk, hclock.now_eq k.lt_succ_self]⟩
    | false =>
      have hpos : 0 < k := Nat.pos_of_ne_zero fun h0 => by simp [h0, he] at hk
      obtain ⟨j, hj, hlast⟩ := ih (hclock.mono k.le_succ) (hr.mono k.le_succ) hpos
      exact ⟨j, hj.trans k.lt_succ_self, by rw [nextState_last_of_not_ev (hr k k.lt_succ_self) hk, hlast]⟩

/-! ## A continuous hold (40_debounce.md R113) -/

/-- Where a hold that began with an event at time `t0` stands before cycle `k`: the last of its events so far is number
`c`, counted from 0, and was accepted `251 * c` after `t0`, and no poll cycle yet has come a window later. -/
structure HoldCount (x : Channel) (s : State) (t0 : Nat) (τ : Nat → Nat) (k c : Nat) : Prop where
  last_eq : (stateAt k s).last x = BitVec.ofNat Config.TSW (t0 + 251 * c)
  count_eq : countCycles (State.ev x) k s = c + 1
  accepted : ∃ j < k, (stateAt j s).phase = .poll ∧ τ j = 251 * c
  polled_lt : ∀ j < k, (stateAt j s).phase = .poll → τ j < 251 * (c + 1)
  dvd_of_ev : ∀ j < k, (stateAt j s).ev x = true → 251 ∣ τ j

variable {t0 L n k c : Nat}

/-- The hold's first event. -/
theorem HoldCount.first (hnow : s.input.now = BitVec.ofNat Config.TSW t0) (h0 : τ 0 = 0) (he : s.ev x = true) :
    HoldCount x s t0 τ 1 0 where
  last_eq := (nextState_last_of_ev he).trans hnow
  count_eq := by simp [countCycles, he]
  accepted := ⟨0, Nat.one_pos, State.phase_of_ev he, h0⟩
  polled_lt j hj _ := by
    obtain rfl : j = 0 := by omega
    omega
  dvd_of_ev j hj _ := by
    obtain rfl : j = 0 := by omega
    rw [h0]
    exact Nat.dvd_zero 251

/-- One more event, at the next multiple of 251. -/
theorem HoldCount.accept (h : HoldCount x s t0 τ k c)
    (hnow : (stateAt k s).input.now = BitVec.ofNat Config.TSW (t0 + τ k)) (he : (stateAt k s).ev x = true)
    (hk : τ k = 251 * (c + 1)) : HoldCount x s t0 τ (k + 1) (c + 1) where
  last_eq := by rw [stateAt_succ, nextState_last_of_ev he, hnow, hk]
  count_eq := by rw [countCycles_succ, h.count_eq, he]; rfl
  accepted := ⟨k, k.lt_succ_self, State.phase_of_ev he, hk⟩
  polled_lt := Nat.forall_lt_succ_right.mpr
    ⟨fun j hj hp => (h.polled_lt j hj hp).trans (by omega), fun _ => by omega⟩
  dvd_of_ev := Nat.forall_lt_succ_right.mpr ⟨h.dvd_of_ev, fun _ => ⟨c + 1, hk⟩⟩

/-- A cycle without an event: a stall, or a poll cycle inside the window. -/
theorem HoldCount.reject (h : HoldCount x s t0 τ k c) (hr : (stateAt k s).input.rst = false)
    (he : (stateAt k s).ev x = false) (hk : (stateAt k s).phase = .poll → τ k < 251 * (c + 1)) :
    HoldCount x s t0 τ (k + 1) c where
  last_eq := by rw [stateAt_succ, nextState_last_of_not_ev hr he, h.last_eq]
  count_eq := by rw [countCycles_succ, h.count_eq, he]; rfl
  accepted := by
    obtain ⟨j, hj, hat⟩ := h.accepted
    exact ⟨j, hj.trans k.lt_succ_self, hat⟩
  polled_lt := Nat.forall_lt_succ_right.mpr ⟨h.polled_lt, hk⟩
  dvd_of_ev := Nat.forall_lt_succ_right.mpr ⟨h.dvd_of_ev, fun h' => by simp [he] at h'⟩

section Hold

variable (hclock : ClockMonotone (fun k => t0 + τ k) n s) (hr : NoReset n s)
  (hpoll : ∀ k < n, (stateAt k s).phase = .poll → (stateAt k s).pressed x = true ∧ τ k ≤ L)
  (hseen : ∀ m ≤ L, ∃ k < n, (stateAt k s).phase = .poll ∧ τ k = m)

include hclock in
/-- The hold's clock, with `t0` taken off. -/
theorem hold_time_mono {i j : Nat} (hij : i ≤ j) (hj : j < n) : τ i ≤ τ j :=
  Nat.add_le_add_iff_left.mp (hclock.2 i j hij hj)

include hclock hpoll hseen in
/-- Poll cycles skip no millisecond, so none comes later than 251 after the last event. -/
theorem HoldCount.polled_le_next (h : HoldCount x s t0 τ k c) (hk : k < n) (hp : (stateAt k s).phase = .poll) :
    τ k ≤ 251 * (c + 1) := by
  by_contra hlate
  obtain ⟨j, hj, hjp, hjt⟩ := hseen (251 * (c + 1)) (by have := (hpoll k hk hp).2; omega)
  rcases Nat.lt_or_ge j k with hjk | hkj
  · exact absurd (h.polled_lt j hjk hjp) (by omega)
  · exact absurd (hold_time_mono hclock hkj hj) (by omega)

include hclock hr hpoll hseen in
/-- A poll cycle of the hold accepts exactly at 251 after the last event. -/
theorem HoldCount.ev_iff (h : HoldCount x s t0 τ k c) (hk : k < n) (hp : (stateAt k s).phase = .poll) :
    (stateAt k s).ev x = true ↔ τ k = 251 * (c + 1) := by
  have hle := h.polled_le_next hclock hpoll hseen hk hp
  obtain ⟨j, hj, -, hjt⟩ := h.accepted
  have hge : 251 * c ≤ τ k := hjt ▸ hold_time_mono hclock hj.le hk
  rw [State.ev_eq_true_iff, State.windowOpen_iff_of_times (hclock.now_eq hk) h.last_eq (by omega)]
  simp only [hp, hr k hk, (hpoll k hk hp).1, true_and]
  omega

include hclock hr hpoll hseen in
/-- The hold's count goes on through every cycle. -/
theorem HoldCount.succ (h : HoldCount x s t0 τ k c) (hk : k < n) : ∃ c', HoldCount x s t0 τ (k + 1) c' := by
  cases he : (stateAt k s).ev x with
  | true =>
    have hat := (h.ev_iff hclock hr hpoll hseen hk (State.phase_of_ev he)).mp he
    exact ⟨c + 1, h.accept (hclock.now_eq hk) he hat⟩
  | false =>
    refine ⟨c, h.reject (hr k hk) he fun hp => ?_⟩
    have hne : τ k ≠ 251 * (c + 1) := fun hat => by
      simp [(h.ev_iff hclock hr hpoll hseen hk hp).mpr hat] at he
    exact Nat.lt_of_le_of_ne (h.polled_le_next hclock hpoll hseen hk hp) hne

include hclock hr hpoll hseen in
/-- So it holds before every cycle after the first, and at the end of the run. -/
theorem exists_holdCount (h0 : τ 0 = 0) (he : s.ev x = true) (hpos : 0 < k) (hk : k ≤ n) :
    ∃ c, HoldCount x s t0 τ k c := by
  induction k, hpos using Nat.le_induction with
  | base => exact ⟨0, .first (by simpa [h0] using hclock.now_eq hk) h0 he⟩
  | succ k _ ih =>
    obtain ⟨c, hc⟩ := ih (Nat.le_of_succ_le hk)
    exact hc.succ hclock hr hpoll hseen hk

include hpoll hseen in
/-- At the end of the run the last event is the last multiple of 251 up to `L`: it was seen, and the next was not. -/
theorem HoldCount.eq_div (h : HoldCount x s t0 τ n c) : c = L / 251 := by
  obtain ⟨j, hj, hjp, hjt⟩ := h.accepted
  have hle : 251 * c ≤ L := hjt ▸ (hpoll j hj hjp).2
  have hlt : L < 251 * (c + 1) := by
    by_contra hlate
    obtain ⟨k, hk, hkp, hkt⟩ := hseen (251 * (c + 1)) (by omega)
    exact absurd (h.polled_lt k hk hkp) (by omega)
  omega

end Hold

end Sys2Proof.Machine
end

section
/-! SUPPORT. The statements of spec/40_debounce.md settled. -/

namespace Sys2Proof.Machine

/-- Settles O31: the record holds the time of an event no earlier than the first, and the window has opened since; a
wrap of `now` only makes the elapsed time read shorter than it is. -/
theorem eventsOfAChannelAreMoreThanWindowApart : Obligations.EventsOfAChannelAreMoreThanWindowApart := by
  intro x s τ n hn hclock hr hfirst hlater
  obtain ⟨j, hj, hlast⟩ := exists_last_stateAt_eq (hclock.mono n.le_succ) (hr.mono n.le_succ) hfirst hn
  obtain ⟨-, -, -, hopen⟩ := State.ev_eq_true_iff.mp hlater
  have hjn : τ j ≤ τ n := hclock.2 j n hj.le n.lt_succ_self
  have h0j : τ 0 ≤ τ j := hclock.2 0 j j.zero_le (hj.trans n.lt_succ_self)
  rw [State.windowOpen_iff_of_times (hclock.now_eq n.lt_succ_self) hlast hjn] at hopen
  have hwrap : (τ n - τ j) % 2 ^ 32 ≤ τ n - τ j := Nat.mod_le _ _
  rw [Config.WINDOW, Config.NOW_UNIT_MS]
  omega

/-- Settles O32, by induction on the cycles of the hold: poll cycles skip no millisecond, so the first to find the
window open comes exactly 251 after the last event. -/
theorem heldButtonFiresOncePerWindow : Obligations.HeldButtonFiresOncePerWindow := by
  intro x s t0 L n τ h0 hclock hr hn he hpoll hseen
  obtain ⟨c, hc⟩ := exists_holdCount hclock hr hpoll hseen h0 he hn le_rfl
  exact ⟨by rw [hc.count_eq, hc.eq_div hpoll hseen], hc.dvd_of_ev⟩

/-- Settles O26, by the bits of `dsel_x`: the operation is decoded from the three signals, and the record is written on
an event or under reset only. -/
theorem channelOperationFollowsItsSignals : Obligations.ChannelOperationFollowsItsSignals := by
  intro x s
  simp only [decode, State.decodeDb_dsel]
  refine ⟨fun h => ?stalled, fun h => ?reset, fun hp hr => nextState_last_of_not_ev hr (State.ev_of_busy hp),
    fun hp hr hpr => ?released, fun hp hr hpr ho => ?window, fun hp hr hpr ho => ?accept⟩
  case stalled =>
    have hpoll : s.pollEn = false := by
      obtain hp | hr := h
      · simp [State.pollEn, hp]
      · simp [State.pollEn, hr]
    exact ⟨by simp [hpoll], State.ev_of_not_pollEn hpoll⟩
  case reset => rw [nextState_last, if_pos h]
  case released =>
    have hpoll := s.pollEn_eq_true_iff.mpr ⟨hp, hr⟩
    have he : s.ev x = false := by simp [State.ev, hpr]
    exact ⟨by simp [hpoll, hpr], he, nextState_last_of_not_ev hr he⟩
  case window =>
    have hpoll := s.pollEn_eq_true_iff.mpr ⟨hp, hr⟩
    have he : s.ev x = false := by simp [State.ev, ho]
    exact ⟨by simp [hpoll, hpr, ho], he, nextState_last_of_not_ev hr he⟩
  case accept =>
    have hpoll := s.pollEn_eq_true_iff.mpr ⟨hp, hr⟩
    have he : s.ev x = true := State.ev_eq_true_iff.mpr ⟨hp, hr, hpr, ho⟩
    exact ⟨by simp [hpoll, hpr, ho], he, nextState_last_of_ev he⟩

/-- Settles O28: the event reads the channel's own level and record, the flops take the channel's own line, and the
record is written on the channel's own event. -/
theorem channelsDoNotInterfere : Obligations.ChannelsDoNotInterfere := by
  intro s t hphase hrst hnow
  have hrecord (x : Channel) (he : s.ev x = t.ev x) (hlast : s.last x = t.last x) :
      (nextState s).last x = (nextState t).last x := by
    rw [nextState_last, nextState_last, hrst, hnow, he, hlast]
  constructor
  · intro hline hsync hlast
    have he : s.ev .a = t.ev .a := State.ev_congr hphase hrst hnow (by rw [State.level, State.level, hsync]) hlast
    exact ⟨he, by rw [nextState_syncA, nextState_syncA, hrst, hline, hsync], hrecord .a he hlast⟩
  · intro hline hsync hlast
    have he : s.ev .b = t.ev .b := State.ev_congr hphase hrst hnow (by rw [State.level, State.level, hsync]) hlast
    exact ⟨he, by rw [nextState_syncB, nextState_syncB, hrst, hline, hsync], hrecord .b he hlast⟩

/-- Settles O7: the operation is the shift, and its effect on the named flops is that of a shift of any chain. -/
theorem syncShiftShiftsBothSynchronizers : Obligations.SyncShiftShiftsBothSynchronizers := by
  refine ⟨fun s => ⟨rfl, ?_⟩, fun c line => ⟨shiftIn_first c line, shiftIn_next c line⟩⟩
  rintro _ ⟨⟩
  exact ⟨s.shiftSync_sa1, s.shiftSync_sa2, s.shiftSync_sb1, s.shiftSync_sb2⟩

/-- Settles O8, by the meaning of DB_ACCEPT on each channel. -/
theorem dbAcceptRecordsTheTimestamp : Obligations.DbAcceptRecordsTheTimestamp :=
  fun _ => ⟨rfl, rfl⟩

/-- Settles O24: the window test is on the elapsed time, which is the difference modulo `2^32`. -/
theorem windowOpensAboveTwoHundredFifty : Obligations.WindowOpensAboveTwoHundredFifty := by
  intro x s
  have hel := toNat_elapsed s.input.now (s.last x)
  exact ⟨hel, by rw [State.windowOpen_eq_true_iff, hel]⟩

/-- Settles O25: a channel reads pressed where its second flop is 0. -/
theorem eventIsPolledPressedAndOpen : Obligations.EventIsPolledPressedAndOpen := by
  intro s
  simp only [State.ev_eq_true_iff, State.pressed, State.level_a, State.level_b, Bool.not_eq_true', and_self]

/-- Settles O27: of what the channel holds, its event reads the level and the record. -/
theorem eventDependsOnNoEarlierLevel : Obligations.EventDependsOnNoEarlierLevel :=
  fun _ _ _ hphase hlevel hlast hinput =>
    State.ev_congr hphase (congrArg InputVector.rst hinput) (congrArg InputVector.now hinput) hlevel hlast

/-- Settles O30: RESET leaves both records at 0, so the elapsed time is `now` itself. -/
theorem windowAfterResetOpensAtTimestampAboveWindow : Obligations.WindowAfterResetOpensAtTimestampAboveWindow := by
  rintro x s _ ⟨⟩
  have hlast : s.resetElements.last x = 0#Config.TSW := by cases x <;> rfl
  rw [State.windowOpen_eq_true_iff, hlast, elapsed, BitVec.sub_zero, Nat.lt_iff_add_one_le]

end Sys2Proof.Machine
end

section
/-! SUPPORT. A poll cycle without reset: what it makes of the state, and the frame of the render it starts
(spec/41_fsm_transitions.md R132, R133; spec/42_dispatch.md R161). -/

namespace Sys2Proof.Machine

variable {s : State}

/-! ## Only a poll cycle without reset has an event or starts a render -/

theorem State.rst_of_ev {x : Channel} (h : s.ev x = true) : s.input.rst = false :=
  (ev_eq_true_iff.mp h).2.1

theorem State.rst_of_render (h : s.render = true) : s.input.rst = false := by
  by_contra hr
  have hev (x : Channel) : s.ev x = false := ev_of_reset (by simpa using hr)
  simp [State.render, hev] at h

/-! ## The render signal by the events -/

theorem State.powerN_of_not_ev (ha : s.ev .a = false) : s.powerN = s.power := by
  rw [State.powerN, ha, Bool.xor_false]

theorem State.speedN_of_not_ev (hb : s.ev .b = false) : s.speedN = s.speed := by
  simp [State.speedN, hb]

/-- An event on A always renders. -/
theorem State.render_of_ev_a (ha : s.ev .a = true) : s.render = true := by
  rw [State.render, ha, Bool.true_or]

/-- Without an event on A, one on B renders exactly while on. -/
theorem State.render_of_not_ev_a (ha : s.ev .a = false) : s.render = (s.ev .b && s.power) := by
  rw [State.render, powerN_of_not_ev ha, ha, Bool.false_or]

/-- Without an event on B, only one on A renders. -/
theorem State.render_of_not_ev_b (hb : s.ev .b = false) : s.render = s.ev .a := by
  rw [State.render, hb, Bool.false_and, Bool.or_false]

/-! ## The operation and the step -/

/-- The operation that the two events of a poll cycle choose (30_encoding.md R86). -/
theorem State.decode_sel_of_poll (hp : s.phase = .poll) (hr : s.input.rst = false) :
    decode (.seq s.sel) = .ok
      (if s.ev .a then (if s.ev .b then .toggleCycle else .toggle) else if s.ev .b then .cycle else .idle) := by
  rw [decode, decodeSeq_sel hr, hp]

/-- The step of a poll cycle: the lamp is not written, everything else by the events. -/
theorem step_of_poll (hp : s.phase = .poll) (hr : s.input.rst = false) :
    step s = .next
      { s with
        power := s.powerN, speed := s.speedN
        lastA := if s.ev .a then s.input.now else s.lastA, lastB := if s.ev .b then s.input.now else s.lastB
        fbPower := if s.render then s.powerN else s.fbPower, fbSpeed := if s.render then s.speedN else s.fbSpeed
        phase := if s.render then .mtx else .poll
        syncA := shiftIn s.syncA s.input.btnA, syncB := shiftIn s.syncB s.input.btnB
        inputs := s.inputs.tail, cycle := s.cycle + 1 } := by
  simp [step_eq_registerTransfer, registerTransfer, State.phaseN, hp, hr]

/-! ## After a render -/

theorem nextState_phase_of_render (h : s.render = true) : (nextState s).phase = .mtx := by
  simp [nextState_phase (State.rst_of_render h), State.phaseN, State.phase_of_render h, h]

/-- The frame rendered is that of the new fan state (42_dispatch.md R161). -/
theorem nextState_frameIndex_of_render (h : s.render = true) :
    (nextState s).frameIndex = idx (nextState s).power (nextState s).speed := by
  have hr := State.rst_of_render h
  simp [State.frameIndex, nextState_fbPower hr, nextState_fbSpeed hr, nextState_power hr, nextState_speed hr, h]

/-! ## The transition table (41_fsm_transitions.md R138) -/

/-- A cell of the table holds if its next state and its render are what R132 and R133 make of its inputs. -/
theorem pollRow_of_eq {p p' a b : Bool} {v v' : SpeedCode} {k : Option FrameIndex} (hp' : p' = (p ^^ a))
    (hv' : v' = if b then nxt v else v) (hk : k = if a || (b && p') then some (idx p' v') else none) :
    PollRow p v a b p' v' k := by
  intro s hphase hr hp hv ha hb
  have hpower : (nextState s).power = p' := by rw [nextState_power hr, State.powerN, hp, ha, hp']
  have hspeed : (nextState s).speed = v' := by rw [nextState_speed hr, State.speedN, hv, hb, hv']
  have hrender : s.render = (a || (b && p')) := by rw [State.render, State.powerN, hp, ha, hb, hp']
  refine ⟨hpower, hspeed, ?_⟩
  rw [hk, ← hrender]
  cases h : s.render with
  | true =>
    exact ⟨nextState_phase_of_render h, by rw [nextState_frameIndex_of_render h, hpower, hspeed]⟩
  | false =>
    exact ⟨by simp [nextState_phase hr, State.phaseN, hphase, h], by simp [nextState_fbPower hr, h],
      by simp [nextState_fbSpeed hr, h]⟩

end Sys2Proof.Machine
end

section
/-! SUPPORT. The fan state and the frames rendered along a run, by the counts of events (spec/41_fsm_transitions.md
R132, R139 to R141). -/

namespace Sys2Proof.Machine

variable {s : State} {n : Nat} {p : State → Bool}

/-! ## Runs without a signal -/

theorem countCycles_eq_zero_iff : countCycles p n s = 0 ↔ ∀ k < n, p (stateAt k s) = false := by
  induction n with
  | zero => simp
  | succ n ih => rw [countCycles_succ, Nat.add_eq_zero_iff, ih, Bool.toNat_eq_zero, Nat.forall_lt_succ_right]

theorem countCycles_eq_zero_of_le {m : Nat} (h : countCycles p n s = 0) (hm : m ≤ n) : countCycles p m s = 0 :=
  Nat.le_zero.mp (h ▸ countCycles_mono p hm s)

theorem framesRendered_eq_nil (h : ∀ k < n, (stateAt k s).render = false) : framesRendered n s = [] := by
  induction n with
  | zero => rfl
  | succ n ih =>
    obtain ⟨h, hlast⟩ := Nat.forall_lt_succ_right.mp h
    rw [framesRendered_succ, ih h, hlast]
    rfl

/-! ## Runs in which one signal starts the renders -/

/-- What the events so far make of the frames: if the signal `p` is 1 in exactly the cycles that start a render, and the
one after `i` others renders `frame i`, the frames rendered are the first of those, as many as `p` has been 1. -/
theorem framesRendered_eq_map_range {frame : Nat → FrameIndex}
    (hrender : ∀ k < n, (stateAt k s).render = p (stateAt k s))
    (hframe : ∀ k < n, p (stateAt k s) = true → (stateAt (k + 1) s).frameIndex = frame (countCycles p k s)) :
    framesRendered n s = (List.range (countCycles p n s)).map frame := by
  induction n with
  | zero => rfl
  | succ n ih =>
    obtain ⟨hrender, hlast⟩ := Nat.forall_lt_succ_right.mp hrender
    obtain ⟨hframe, hlastFrame⟩ := Nat.forall_lt_succ_right.mp hframe
    rw [framesRendered_succ, ih hrender hframe, countCycles_succ, hlast]
    cases h : p (stateAt n s) with
    | false => simp
    | true => simp [List.range_succ, hlastFrame h]

/-! ## The fan state -/

/-- One more event turns the parity of their count. -/
theorem decide_odd_add_toNat (c : Nat) (e : Bool) :
    decide ((c + e.toNat) % 2 = 1) = (decide (c % 2 = 1) ^^ e) := by
  cases e with
  | false => simp
  | true =>
    rw [Bool.xor_true, ← decide_not, Bool.toNat_true, decide_eq_decide]
    omega

/-- `power` is flipped once for each event on A. -/
theorem power_stateAt (h : NoReset n s) :
    (stateAt n s).power = (s.power ^^ decide (countCycles (State.ev .a) n s % 2 = 1)) := by
  induction n with
  | zero => simp
  | succ n ih =>
    rw [stateAt_succ, nextState_power (h n n.lt_succ_self), State.powerN, ih (h.mono n.le_succ), countCycles_succ,
      decide_odd_add_toNat, Bool.xor_assoc]

/-- `speed` is advanced once for each event on B. -/
theorem speed_stateAt (h : NoReset n s) :
    (stateAt n s).speed = nxt^[countCycles (State.ev .b) n s] s.speed := by
  induction n with
  | zero => rfl
  | succ n ih =>
    rw [stateAt_succ, nextState_speed (h n n.lt_succ_self), State.speedN, ih (h.mono n.le_succ), countCycles_succ]
    cases (stateAt n s).ev .b with
    | false => rfl
    | true => exact (Function.iterate_succ_apply' nxt _ _).symm

theorem power_stateAt_of_no_toggle (h : NoReset n s) (ha : countCycles (State.ev .a) n s = 0) :
    (stateAt n s).power = s.power := by
  simp [power_stateAt h, ha]

theorem speed_stateAt_of_no_cycle (h : NoReset n s) (hb : countCycles (State.ev .b) n s = 0) :
    (stateAt n s).speed = s.speed := by
  rw [speed_stateAt h, hb, Function.iterate_zero_apply]

/-- The speeds go round in three (41_fsm_transitions.md R131). -/
theorem nxt_nxt_nxt {v : SpeedCode} (h : SpeedLegal v) : nxt (nxt (nxt v)) = v := by
  revert v; decide

/-! ## The frames of a run with events on one channel only -/

/-- With no event on B every event on A renders the original speed, toggled and back in turn. -/
theorem framesRendered_of_no_cycle (h : NoReset n s) (hb : countCycles (State.ev .b) n s = 0) :
    framesRendered n s =
      (List.range (countCycles (State.ev .a) n s)).map fun i => idx (s.power ^^ decide ((i + 1) % 2 = 1)) s.speed := by
  have hquiet := countCycles_eq_zero_iff.mp hb
  refine framesRendered_eq_map_range (fun k hk => State.render_of_not_ev_b (hquiet k hk)) fun k hk ha => ?_
  have hrun : NoReset (k + 1) s := h.mono hk
  rw [stateAt_succ, nextState_frameIndex_of_render (State.render_of_ev_a ha), ← stateAt_succ, power_stateAt hrun,
    speed_stateAt_of_no_cycle hrun (countCycles_eq_zero_of_le hb hk), countCycles_succ, ha, Bool.toNat_true]

/-- With no event on A, while on, every event on B renders the next speed. -/
theorem framesRendered_of_no_toggle_of_on (h : NoReset n s) (hon : s.power = true)
    (ha : countCycles (State.ev .a) n s = 0) :
    framesRendered n s = (List.range (countCycles (State.ev .b) n s)).map fun i => nxt^[i + 1] s.speed := by
  have hstays (k : Nat) (hk : k ≤ n) : (stateAt k s).power = true :=
    (power_stateAt_of_no_toggle (h.mono hk) (countCycles_eq_zero_of_le ha hk)).trans hon
  have hrender (k : Nat) (hk : k < n) : (stateAt k s).render = (stateAt k s).ev .b := by
    rw [State.render_of_not_ev_a (countCycles_eq_zero_iff.mp ha k hk), hstays k hk.le, Bool.and_true]
  refine framesRendered_eq_map_range hrender fun k hk hb => ?_
  have hspeed : (stateAt (k + 1) s).speed = nxt^[countCycles (State.ev .b) k s + 1] s.speed := by
    rw [speed_stateAt (h.mono hk), countCycles_succ, hb, Bool.toNat_true]
  rw [stateAt_succ, nextState_frameIndex_of_render ((hrender k hk).trans hb), ← stateAt_succ, hstays (k + 1) hk,
    hspeed, idx, if_pos rfl]

/-! ## Off and polling (41_fsm_transitions.md R141) -/

/-- The block is off and polling in `t`, with the buffer and the lamp of `s`. -/
structure OffAndPolling (s t : State) : Prop where
  phase_eq : t.phase = .poll
  power_eq : t.power = false
  fbPower_eq : t.fbPower = s.fbPower
  fbSpeed_eq : t.fbSpeed = s.fbSpeed
  led_eq : t.led = s.led

/-- Off, only an event on A renders. -/
theorem OffAndPolling.render_eq_false {t : State} (h : OffAndPolling s t) (ha : t.ev .a = false) :
    t.render = false := by
  rw [State.render_of_not_ev_a ha, h.power_eq, Bool.and_false]

/-- So a step without an event on A leaves the block off and polling. -/
theorem OffAndPolling.nextState {t : State} (h : OffAndPolling s t) (hr : t.input.rst = false)
    (ha : t.ev .a = false) : OffAndPolling s (nextState t) := by
  have hrender := h.render_eq_false ha
  exact {
    phase_eq := by simp [nextState_phase hr, State.phaseN, h.phase_eq, hrender]
    power_eq := by rw [nextState_power hr, State.powerN_of_not_ev ha, h.power_eq]
    fbPower_eq := by simp [nextState_fbPower hr, hrender, h.fbPower_eq]
    fbSpeed_eq := by simp [nextState_fbSpeed hr, hrender, h.fbSpeed_eq]
    led_eq := by simp [nextState_led hr, h.phase_eq, h.led_eq] }

theorem OffAndPolling.stateAt (hs : OffAndPolling s s) (h : NoReset n s)
    (ha : ∀ k < n, (stateAt k s).ev .a = false) : OffAndPolling s (stateAt n s) := by
  induction n with
  | zero => exact hs
  | succ n ih =>
    obtain ⟨ha, hlast⟩ := Nat.forall_lt_succ_right.mp ha
    rw [stateAt_succ]
    exact (ih (h.mono n.le_succ) ha).nextState (h n n.lt_succ_self) hlast

end Sys2Proof.Machine
end

section
/-! SUPPORT. The statements of spec/41_fsm_transitions.md settled. -/

namespace Sys2Proof.Machine

/-! ## Over runs -/

/-- Settles O40, by induction on the run: each cycle flips `power` on an event on A and advances `speed` on one on B. -/
theorem fanStateCountsItsEvents : Obligations.FanStateCountsItsEvents :=
  fun _ _ h => ⟨power_stateAt h, speed_stateAt h⟩

/-- Settles O41: two flips are none, and with no event on B the renders are those of the events on A. -/
theorem twoTogglesAreARoundTrip : Obligations.TwoTogglesAreARoundTrip := by
  intro n s h ha hb
  refine ⟨by simp [power_stateAt h, ha], speed_stateAt_of_no_cycle h hb, ?_⟩
  rw [framesRendered_of_no_cycle h hb, ha]
  simp [List.range_succ]

/-- Settles O42: the three legal speeds go round, and while on each event on B renders the speed it leads to. -/
theorem threeCyclesWhileOnWrapAround : Obligations.ThreeCyclesWhileOnWrapAround := by
  intro n s h hon hlegal ha hb
  have hround : nxt^[3] s.speed = s.speed := nxt_nxt_nxt hlegal
  refine ⟨(power_stateAt_of_no_toggle h ha).trans hon, by rw [speed_stateAt h, hb, hround], ?_⟩
  rw [framesRendered_of_no_toggle_of_on h hon ha, hb]
  simp [List.range_succ, nxt_nxt_nxt hlegal]

/-- Settles O43: without an event on A the block stays off and polling, where no event on B renders; the first event on
A captures the speed that the events on B have led to. -/
theorem cyclingWhileOffIsInvisible : Obligations.CyclingWhileOffIsInvisible := by
  intro n s h hphase hoff ha
  have hquiet := countCycles_eq_zero_iff.mp ha
  have hkept (k : Nat) (hk : k ≤ n) : OffAndPolling s (stateAt k s) :=
    OffAndPolling.stateAt ⟨hphase, hoff, rfl, rfl, rfl⟩ (h.mono hk) fun j hj => hquiet j (hj.trans_le hk)
  have hnone (k : Nat) (hk : k < n) : (stateAt k s).render = false :=
    (hkept k hk.le).render_eq_false (hquiet k hk)
  refine ⟨framesRendered_eq_nil hnone, fun k hk => ?stays, fun hA hB => ?toggle⟩
  case stays =>
    obtain ⟨hp, -, hfbPower, hfbSpeed, hled⟩ := hkept k hk
    exact ⟨hp, by simp [State.mtxReq, hp], by simp [State.pnlReq, hp], hfbPower, hfbSpeed, hled⟩
  case toggle =>
    have hr := State.rst_of_ev hA
    have hrender := State.render_of_ev_a hA
    rw [stateAt_succ]
    refine ⟨decide_eq_true (nextState_phase_of_render hrender), ?_⟩
    rw [nextState_frameIndex_of_render hrender, nextState_power hr, nextState_speed hr, State.powerN, hA,
      (hkept n le_rfl).power_eq, State.speedN_of_not_ev hB, speed_stateAt h]
    rfl

/-! ## One poll cycle -/

/-- Settles O34: with no event nothing is rendered, and only the synchronizers move. -/
theorem pollCycleWithoutEventIsIdle : Obligations.PollCycleWithoutEventIsIdle := by
  intro s hp hr ha hb
  have hrender : s.render = false := by rw [State.render_of_not_ev_b hb, ha]
  refine ⟨by simp [State.decode_sel_of_poll hp hr, ha, hb], hrender, ?_⟩
  simp [step_of_poll hp hr, State.powerN_of_not_ev ha, State.speedN_of_not_ev hb, hrender, ha, hb, hp]

/-- Settles O35: the event on A flips `power` and renders, whatever the speed. -/
theorem pollCycleWithEventOnAToggles : Obligations.PollCycleWithEventOnAToggles := by
  intro s ha hb
  have hp := State.phase_of_ev ha
  have hr := State.rst_of_ev ha
  have hrender := State.render_of_ev_a ha
  refine ⟨by simp [State.decode_sel_of_poll hp hr, ha, hb], hrender, ?_⟩
  simp [step_of_poll hp hr, State.powerN, State.speedN_of_not_ev hb, hrender, ha, hb]

/-- Settles O36: the event on B advances `speed`, and renders exactly where `power` is 1. -/
theorem pollCycleWithEventOnBCycles : Obligations.PollCycleWithEventOnBCycles := by
  intro s ha hb
  have hp := State.phase_of_ev hb
  have hr := State.rst_of_ev hb
  have hrender : s.render = s.power := by rw [State.render_of_not_ev_a ha, hb, Bool.true_and]
  refine ⟨by simp [State.decode_sel_of_poll hp hr, ha, hb], hrender, fun hon => ?on, fun hoff => ?off⟩
  case on => simp [step_of_poll hp hr, State.powerN_of_not_ev ha, State.speedN, hrender, ha, hb, hon]
  case off => simp [step_of_poll hp hr, State.powerN_of_not_ev ha, State.speedN, hrender, ha, hb, hp, hoff]

/-- Settles O37: both events make both changes, and the one render captures the state after both. -/
theorem pollCycleWithBothEventsRendersOnce : Obligations.PollCycleWithBothEventsRendersOnce := by
  intro s ha hb
  have hp := State.phase_of_ev ha
  have hr := State.rst_of_ev ha
  have hrender := State.render_of_ev_a ha
  refine ⟨by simp [State.decode_sel_of_poll hp hr, ha, hb], hrender, ?_⟩
  simp [step_of_poll hp hr, State.powerN, State.speedN, hrender, ha, hb]

/-- Settles O38: each of the twenty-four cells is what R132 and R133 make of its inputs. -/
theorem pollCycleTransitionTable : Obligations.PollCycleTransitionTable := by
  unfold Obligations.PollCycleTransitionTable
  and_intros <;> exact pollRow_of_eq rfl rfl rfl

/-- Settles O39: the next `power` and `speed` differ from the present ones only by an event, and an event is seen in a
poll cycle. -/
theorem fanStateChangesOnlyOnEvents : Obligations.FanStateChangesOnlyOnEvents := by
  intro s t hr hst
  rw [eq_nextState_of_step hst, nextState_power hr, nextState_speed hr]
  refine ⟨fun hne => ?power, fun hne => ?speed, fun hp => ⟨State.powerN_of_busy hp, State.speedN_of_busy hp⟩⟩
  case power =>
    have ha : s.ev .a = true := by
      by_contra ha
      exact hne (State.powerN_of_not_ev (by simpa using ha))
    exact ⟨State.phase_of_ev ha, ha⟩
  case speed =>
    have hb : s.ev .b = true := by
      by_contra hb
      exact hne (State.speedN_of_not_ev (by simpa using hb))
    exact ⟨State.phase_of_ev hb, hb⟩

/-! ## One operation -/

/-- Settles O6, by the meaning of each of the six operations. -/
theorem waitingAndRejectingOperationsWriteNothing : Obligations.WaitingAndRejectingOperationsWriteNothing :=
  fun _ => ⟨rfl, rfl, rfl, fun _ => ⟨rfl, rfl, rfl⟩⟩

/-- Settles O9: the write of the fan state and the capture, field by field. -/
theorem toggleInvertsPowerAndCaptures : Obligations.ToggleInvertsPowerAndCaptures := fun _ => rfl

/-- Settles O10, by whether the block is on. -/
theorem cycleAdvancesSpeedAndCapturesOnlyWhenOn : Obligations.CycleAdvancesSpeedAndCapturesOnlyWhenOn := by
  refine fun s => ⟨fun hon => ?on, fun hoff => ?off⟩
  case on => rw [exec_eq_after, after_cycle, if_pos hon]; rfl
  case off => rw [exec_eq_after, after_cycle, if_neg (by simp [hoff])]; rfl

/-- Settles O11: the write of both fields of the fan state and one capture. -/
theorem toggleCycleMakesBothChangesAndOneCapture : Obligations.ToggleCycleMakesBothChangesAndOneCapture :=
  fun _ => rfl

/-- Settles O33: the successor of each of the four codes is computed. -/
theorem speedSuccessorWraps : Obligations.SpeedSuccessorWraps :=
  ⟨rfl, rfl, rfl, rfl, fun v => ⟨by revert v; decide, nxt_nxt_nxt⟩⟩

end Sys2Proof.Machine
end

section
/-! SUPPORT. The busy phases (spec/42_dispatch.md R162 to R166): what a step outside POLL writes, and how long the two
waits last. -/

namespace Sys2Proof.Machine

variable {s : State}

/-! ## A step outside POLL -/

/-- The step of a busy phase: `phase` moves, IND loads the lamp, and only the synchronizers move beside it. -/
theorem step_of_busy (hp : s.phase ≠ .poll) (hr : s.input.rst = false) :
    step s = .next
      { s with
        phase := s.phaseN
        led := if s.phase = .ind then ind (Config.COLOR s.frameIndex) else s.led
        syncA := shiftIn s.syncA s.input.btnA, syncB := shiftIn s.syncB s.input.btnB
        inputs := s.inputs.tail, cycle := s.cycle + 1 } := by
  simp [step_eq_registerTransfer, registerTransfer, State.powerN_of_busy hp, State.speedN_of_busy hp,
    State.render_of_busy hp, State.ev_of_busy hp, hr]

/-- IND leads to PNL, whatever the inputs (R164). -/
theorem nextState_phase_of_ind (hp : s.phase = .ind) (hr : s.input.rst = false) : (nextState s).phase = .pnl := by
  rw [nextState_phase hr, State.phaseN, hp]

/-- The snapshot buffer and the fan state of `t` are those of `s`. -/
def SameFrame (s t : State) : Prop :=
  t.fbPower = s.fbPower ∧ t.fbSpeed = s.fbSpeed ∧ t.power = s.power ∧ t.speed = s.speed

/-- Nothing but a poll cycle writes the snapshot buffer or the fan state (R168). -/
theorem SameFrame.nextState_of_busy {t : State} (h : SameFrame s t) (hp : t.phase ≠ .poll)
    (hr : t.input.rst = false) : SameFrame s (nextState t) := by
  rw [nextState, step_of_busy hp hr]
  exact h

theorem sameFrame_stateAt {n : Nat} (hr : NoReset n s) (hp : ∀ k < n, (stateAt k s).phase ≠ .poll) :
    SameFrame s (stateAt n s) := by
  induction n with
  | zero => exact ⟨rfl, rfl, rfl, rfl⟩
  | succ n ih =>
    obtain ⟨hp, hlast⟩ := Nat.forall_lt_succ_right.mp hp
    rw [stateAt_succ]
    exact (ih (hr.mono n.le_succ) hp).nextState_of_busy hlast (hr n n.lt_succ_self)

/-! ## The two waits -/

/-- `Awaits ph done ph'`: in phase `ph` the block waits for the line `done`, and then goes to `ph'`. -/
inductive Awaits : Phase → (InputVector → Bool) → Phase → Prop where
  /-- The matrix wait (R162, R163). -/
  | matrix : Awaits .mtx InputVector.mtxDone .ind
  /-- The panel wait (R165, R166). -/
  | panel : Awaits .pnl InputVector.pnlDone .poll

namespace Awaits

variable {ph ph' : Phase} {done : InputVector → Bool} {n : Nat}

theorem ne_poll_and_ne_ind (h : Awaits ph done ph') : ph ≠ .poll ∧ ph ≠ .ind := by
  cases h <;> exact ⟨nofun, nofun⟩

theorem phaseN_eq (h : Awaits ph done ph') (hp : s.phase = ph) : s.phaseN = if done s.input then ph' else ph := by
  cases h <;> rw [State.phaseN, hp]

/-- A step of a wait reads the line waited for and writes, beside the synchronizers, the phase only. -/
theorem step_eq (h : Awaits ph done ph') (hp : s.phase = ph) (hr : s.input.rst = false) :
    step s = .next
      { s with
        phase := if done s.input then ph' else ph
        syncA := shiftIn s.syncA s.input.btnA, syncB := shiftIn s.syncB s.input.btnB
        inputs := s.inputs.tail, cycle := s.cycle + 1 } := by
  obtain ⟨hpoll, hind⟩ := h.ne_poll_and_ne_ind
  rw [← hp] at hpoll hind
  rw [step_of_busy hpoll hr, h.phaseN_eq hp, if_neg hind]

theorem nextState_phase_and_led (h : Awaits ph done ph') (hp : s.phase = ph) (hr : s.input.rst = false) :
    (nextState s).phase = (if done s.input then ph' else ph) ∧ (nextState s).led = s.led := by
  rw [nextState, h.step_eq hp hr]
  exact ⟨rfl, rfl⟩

/-- As long as the line stays 0 the block stays in the phase and the lamp as it is. -/
theorem stateAt_of_unanswered (h : Awaits ph done ph') (hp : s.phase = ph) (hr : NoReset n s)
    (hd : ∀ k < n, done (stateAt k s).input = false) : (stateAt n s).phase = ph ∧ (stateAt n s).led = s.led := by
  induction n with
  | zero => exact ⟨hp, rfl⟩
  | succ n ih =>
    obtain ⟨hd, hlast⟩ := Nat.forall_lt_succ_right.mp hd
    obtain ⟨hphase, hled⟩ := ih (hr.mono n.le_succ) hd
    obtain ⟨hphase', hled'⟩ := h.nextState_phase_and_led hphase (hr n n.lt_succ_self)
    rw [stateAt_succ, hphase', hled', hlast]
    exact ⟨rfl, hled⟩

/-- A wait answered in its `n`th cycle: `n` cycles of the phase, then the next one, the lamp untouched. -/
theorem stateAt_of_answered (h : Awaits ph done ph') (hp : s.phase = ph) (hr : NoReset n s) (hn : 1 ≤ n)
    (hd : ∀ k < n, done (stateAt k s).input = decide (k + 1 = n)) :
    (∀ k < n, (stateAt k s).phase = ph ∧ (stateAt k s).led = s.led) ∧ (stateAt n s).phase = ph' ∧
      (stateAt n s).led = s.led := by
  have hwait (k : Nat) (hk : k < n) : (stateAt k s).phase = ph ∧ (stateAt k s).led = s.led := by
    refine h.stateAt_of_unanswered hp (hr.mono hk.le) fun j hj => ?_
    rw [hd j (hj.trans hk), decide_eq_false_iff_not]
    omega
  refine ⟨hwait, ?_⟩
  obtain ⟨m, rfl⟩ := Nat.exists_eq_add_of_le' hn
  obtain ⟨hphase, hled⟩ := hwait m m.lt_succ_self
  have hdone : done (stateAt m s).input = true := by simp [hd m m.lt_succ_self]
  obtain ⟨hphase', hled'⟩ := h.nextState_phase_and_led hphase (hr m m.lt_succ_self)
  rw [stateAt_succ, hphase', hled', hdone]
  exact ⟨rfl, hled⟩

end Awaits

/-- The rest of a run without reset is without reset. -/
theorem NoReset.stateAt {m n : Nat} (h : NoReset (m + n) s) : NoReset n (stateAt m s) := fun k hk => by
  rw [← stateAt_add]
  exact h (m + k) (Nat.add_lt_add_left hk m)

end Sys2Proof.Machine
end

section
/-! SUPPORT. The counts of a dispatch (spec/42_dispatch.md R169, R170): what enters a phase leaves it, but for the one
render that may be in it. -/

namespace Sys2Proof.Machine

variable {s : State} {n : Nat}

/-- One frame is rendered for each render that starts. -/
theorem length_framesRendered (n : Nat) (s : State) :
    (framesRendered n s).length = countCycles State.render n s := by
  induction n generalizing s with
  | zero => rfl
  | succ n ih =>
    rw [framesRendered, countCycles, List.length_append, ih]
    cases s.render <;> rfl

/-- If each cycle balances what enters a place, what leaves it and what it holds, then so does each run. -/
theorem countCycles_balance {enters leaves holds : State → Bool}
    (hstep : ∀ t : State, t.input.rst = false →
      (enters t).toNat + (holds t).toNat = (leaves t).toNat + (holds (nextState t)).toNat)
    (hr : NoReset n s) :
    countCycles enters n s + (holds s).toNat = countCycles leaves n s + (holds (stateAt n s)).toNat := by
  induction n with
  | zero => simp
  | succ n ih =>
    have hrun := ih (hr.mono n.le_succ)
    have hlast := hstep (stateAt n s) (hr n n.lt_succ_self)
    rw [countCycles_succ, countCycles_succ, stateAt_succ]
    omega

/-- MTX is entered by a render and left by the matrix's completion. -/
theorem mtx_balance (t : State) (hr : t.input.rst = false) :
    t.render.toNat + t.mtxReq.toNat = (t.mtxReq && t.input.mtxDone).toNat + (nextState t).mtxReq.toNat := by
  simp only [State.mtxReq, nextState_phase hr, State.phaseN]
  cases hp : t.phase with
  | poll => cases t.render <;> rfl
  | mtx => rw [State.render_of_busy (by simp [hp])]; cases t.input.mtxDone <;> rfl
  | ind => rw [State.render_of_busy (by simp [hp])]; rfl
  | pnl => rw [State.render_of_busy (by simp [hp])]; cases t.input.pnlDone <;> rfl

/-- IND is entered by the matrix's completion and left by its one cycle, the lamp update. -/
theorem ind_balance (t : State) (hr : t.input.rst = false) :
    (t.mtxReq && t.input.mtxDone).toNat + (decide (t.phase = .ind)).toNat =
      (decide (t.phase = .ind)).toNat + (decide ((nextState t).phase = .ind)).toNat := by
  simp only [State.mtxReq, nextState_phase hr, State.phaseN]
  cases t.phase with
  | poll => cases t.render <;> rfl
  | mtx => cases t.input.mtxDone <;> rfl
  | ind => rfl
  | pnl => cases t.input.pnlDone <;> rfl

/-- PNL is entered by the lamp update and left by the panel's completion. -/
theorem pnl_balance (t : State) (hr : t.input.rst = false) :
    (decide (t.phase = .ind)).toNat + t.pnlReq.toNat =
      (t.pnlReq && t.input.pnlDone).toNat + (nextState t).pnlReq.toNat := by
  simp only [State.pnlReq, nextState_phase hr, State.phaseN]
  cases t.phase with
  | poll => cases t.render <;> rfl
  | mtx => cases t.input.mtxDone <;> rfl
  | ind => rfl
  | pnl => cases t.input.pnlDone <;> rfl

end Sys2Proof.Machine
end

section
/-! SUPPORT. The statements of spec/42_dispatch.md settled. -/

namespace Sys2Proof.Machine

/-! ## Over runs -/

/-- Settles O51: the matrix wait, IND and the panel wait follow each other; once IND has run the lamp agrees, and no
cycle on the way is a poll cycle. -/
theorem dispatchDeliversOneFrameInOrder : Obligations.DispatchDeliversOneFrameInOrder := by
  intro s m p hmtx hr hm hp hmtxDone hpnlDone
  obtain ⟨hmatrix, hind, hled⟩ :=
    Awaits.matrix.stateAt_of_answered hmtx (hr.mono (by omega)) hm hmtxDone
  have hpnl : (stateAt (m + 1) s).phase = .pnl := by
    rw [stateAt_succ]
    exact nextState_phase_of_ind hind (hr m (by omega))
  obtain ⟨hpanel, hpoll, -⟩ := Awaits.panel.stateAt_of_answered hpnl hr.stateAt hp fun k hk => by
    rw [← stateAt_add]
    exact hpnlDone k hk
  simp only [← stateAt_add] at hpanel hpoll
  have hlamp (k : Nat) (hk : k ≤ p)
      (hphase : (stateAt (m + 1 + k) s).phase = .pnl ∨ (stateAt (m + 1 + k) s).phase = .poll) :
      (stateAt (m + 1 + k) s).lampAgrees := by
    refine lampAgrees_stateAt _ (hr.mono (by omega)) ?_ hphase
    refine le_trans ?_ (countCycles_mono _ (Nat.le_add_right (m + 1) k) s)
    simp [countCycles_succ, hind]
  have hbusy (k : Nat) (hk : k < m + 1 + p) : (stateAt k s).phase ≠ .poll := by
    obtain hk | rfl | hk' := Nat.lt_trichotomy k m
    · simp [hmatrix k hk]
    · simp [hind]
    · obtain ⟨j, rfl⟩ := Nat.exists_eq_add_of_le hk'
      simp [hpanel j (by omega)]
  refine ⟨fun k hk => ?matrix, ⟨hind, hled⟩, fun k hk => ?panel, ⟨hpoll, hlamp p le_rfl (.inr hpoll)⟩,
    fun k hk => sameFrame_stateAt (hr.mono hk) fun j hj => hbusy j (hj.trans_le hk)⟩
  case matrix => exact ⟨decide_eq_true (hmatrix k hk).1, (hmatrix k hk).2⟩
  case panel => exact ⟨decide_eq_true (hpanel k hk).1, hlamp k hk.le (.inl (hpanel k hk).1)⟩

/-- Settles O53: each busy phase is entered as often as it is left, being empty at both ends of the run. -/
theorem everyRenderIsDeliveredOnceToEachDevice : Obligations.EveryRenderIsDeliveredOnceToEachDevice := by
  intro n s hr hfirst hlast
  have hmtx := countCycles_balance mtx_balance hr
  have hind := countCycles_balance ind_balance hr
  have hpnl := countCycles_balance pnl_balance hr
  simp only [State.mtxReq, State.pnlReq, hfirst, hlast, reduceCtorEq, decide_false, Bool.toNat_false,
    Nat.add_zero] at hmtx hind hpnl
  exact ⟨length_framesRendered n s, hmtx.symm, (hmtx.trans hind).symm, (hmtx.trans (hind.trans hpnl)).symm⟩

/-! ## One step -/

/-- A render is TOGGLE's, TOGGLE_CYCLE's, or CYCLE's while on (R161). -/
theorem State.render_iff_operation {s : State} (hr : s.input.rst = false) :
    s.render = true ↔ decode (.seq s.sel) = .ok .toggle ∨ decode (.seq s.sel) = .ok .toggleCycle ∨
      (decode (.seq s.sel) = .ok .cycle ∧ s.power = true) := by
  by_cases hp : s.phase = .poll
  case pos =>
    rw [decode_sel_of_poll hp hr]
    cases ha : s.ev .a with
    | true => rw [render_of_ev_a ha]; cases s.ev .b <;> simp
    | false => rw [render_of_not_ev_a ha]; cases s.ev .b <;> simp
  case neg =>
    rw [render_of_busy hp, decode, decodeSeq_sel hr]
    cases hph : s.phase with
    | poll => exact absurd hph hp
    | mtx => cases s.input.mtxDone <;> simp
    | ind => simp
    | pnl => cases s.input.pnlDone <;> simp

/-- Settles O45: which operations render is read off the decoder, and the buffer is written where one does. -/
theorem renderCapturesTheNewState : Obligations.RenderCapturesTheNewState := by
  intro s t hr hst
  rw [eq_nextState_of_step hst, nextState_fbPower hr, nextState_fbSpeed hr, nextState_power hr, nextState_speed hr]
  refine ⟨State.render_iff_operation hr, fun h => ?render, fun h => ?none⟩
  case render => simp [h, nextState_phase_of_render h]
  case none => simp [h]

/-- Settles O46: the step of a wait, of the matrix's. -/
theorem matrixWaitEndsOnMtxDoneOnly : Obligations.MatrixWaitEndsOnMtxDoneOnly :=
  fun _ hp hr => Awaits.matrix.step_eq hp hr

/-- Settles O47: in IND the operation and the step read no input but the two lines. -/
theorem indicatorUpdateTakesOneCycle : Obligations.IndicatorUpdateTakesOneCycle := by
  intro s hp hr
  refine ⟨by rw [decode, State.decodeSeq_sel hr, hp], ?_⟩
  rw [step_of_busy (by simp [hp]) hr, State.phaseN, hp, if_pos rfl]
  rfl

/-- Settles O48: the step of a wait, of the panel's. -/
theorem panelWaitEndsOnPnlDoneOnly : Obligations.PanelWaitEndsOnPnlDoneOnly :=
  fun _ hp hr => Awaits.panel.step_eq hp hr

/-! ## One operation -/

/-- Settles O12, by the meaning of the two operations. -/
theorem doneOperationsAdvanceThePhaseOnly : Obligations.DoneOperationsAdvanceThePhaseOnly :=
  fun _ => ⟨rfl, rfl⟩

/-- Settles O13, by whether the captured frame is on. -/
theorem indUpdateLoadsTheLampFromTheFrame : Obligations.IndUpdateLoadsTheLampFromTheFrame := by
  refine fun s => ⟨fun hon => ?on, fun hoff => ?off⟩
  case on =>
    have hindex : s.frameIndex = s.fbSpeed := if_pos hon
    rw [exec_eq_after, after_indUpdate, hindex]
    rfl
  case off =>
    have hindex : s.frameIndex = 0b00#2 := if_neg (by simp [hoff])
    rw [exec_eq_after, after_indUpdate, hindex]
    rfl

/-- The indicator function, line by line (R175). -/
theorem ind_bits (c : ColorTriple) :
    (ind c).getLsbD 2 = (c.r != 0) ∧ (ind c).getLsbD 1 = (c.g != 0) ∧ (ind c).getLsbD 0 = (c.b != 0) := by
  simp only [ind, BitVec.getLsbD_append]
  simp

/-- Settles O57: each line is one bit of the concatenation; IND_UPDATE writes its value. -/
theorem indicatorIsNonzeroPerChannel : Obligations.IndicatorIsNonzeroPerChannel := by
  refine ⟨fun c => ?bits, by decide, by decide, by decide, by decide, ?load⟩
  case bits =>
    obtain ⟨hr, hg, hb⟩ := ind_bits c
    rw [hr, hg, hb]
    exact ⟨bne_iff_ne, bne_iff_ne, bne_iff_ne⟩
  case load =>
    rintro s _ ⟨⟩
    rfl

end Sys2Proof.Machine
end

section
/-! SUPPORT. Runs without a poll cycle, of which an unanswered request is one (spec/60_exceptions.md R203,
spec/20_memory.md R63). -/

namespace Sys2Proof.Machine

variable {s t : State} {n : Nat}

/-- In a busy phase every output port is a function of the frame, the phase and the lamp; the event pulses are 0. -/
theorem SameFrame.outputs_eq_of_busy (h : SameFrame s t) (hphase : t.phase = s.phase) (hled : t.led = s.led)
    (hbusy : s.phase ≠ .poll) : t.outputs = s.outputs := by
  obtain ⟨hfbPower, hfbSpeed, hpower, hspeed⟩ := h
  have hs (x : Channel) : s.ev x = false := State.ev_of_busy hbusy
  have ht (x : Channel) : t.ev x = false := State.ev_of_busy (hphase ▸ hbusy)
  simp [State.outputs_eq, State.mtxReq, State.pnlReq, State.busy, State.pnlSpeed, State.frameIndex, hs, ht, hphase,
    hled, hfbPower, hfbSpeed, hpower, hspeed]

/-- A run without a poll cycle accepts no event. -/
theorem countCycles_ev_of_busy (x : Channel) (hp : ∀ k < n, (stateAt k s).phase ≠ .poll) :
    countCycles (State.ev x) n s = 0 :=
  countCycles_eq_zero_iff.mpr fun k hk => State.ev_of_busy (hp k hk)

/-- A record is written by RESET and by its channel's events only (10_state.md R22). -/
theorem last_stateAt_of_no_event {x : Channel} (hr : NoReset n s) (he : countCycles (State.ev x) n s = 0) :
    (stateAt n s).last x = s.last x := by
  induction n with
  | zero => rfl
  | succ n ih =>
    have hlast : (stateAt n s).ev x = false := countCycles_eq_zero_iff.mp he n n.lt_succ_self
    rw [stateAt_succ, nextState_last_of_not_ev (hr n n.lt_succ_self) hlast,
      ih (hr.mono n.le_succ) (countCycles_eq_zero_of_le he n.le_succ)]

/-- Either wait, unanswered, is a hang: busy, deaf to the buttons, and with constant outputs (decision D25). -/
theorem Awaits.hang {ph ph' : Phase} {done : InputVector → Bool} (h : Awaits ph done ph') (hp : s.phase = ph)
    (hr : NoReset n s) (hd : ∀ k < n, done (stateAt k s).input = false) :
    (stateAt n s).outputs = s.outputs ∧ (stateAt n s).busy = true ∧
      ∀ x, (stateAt n s).last x = s.last x ∧ countCycles (State.ev x) n s = 0 := by
  have hphase (k : Nat) (hk : k ≤ n) : (stateAt k s).phase = ph :=
    (h.stateAt_of_unanswered hp (hr.mono hk) fun j hj => hd j (hj.trans_le hk)).1
  have hbusy (k : Nat) (hk : k ≤ n) : (stateAt k s).phase ≠ .poll := hphase k hk ▸ h.ne_poll_and_ne_ind.1
  have hnever (k : Nat) (hk : k < n) : (stateAt k s).phase ≠ .poll := hbusy k hk.le
  have hled : (stateAt n s).led = s.led := (h.stateAt_of_unanswered hp hr hd).2
  refine ⟨?outputs, decide_eq_true (hbusy n le_rfl), fun x => ?channel⟩
  case outputs =>
    exact (sameFrame_stateAt hr hnever).outputs_eq_of_busy ((hphase n le_rfl).trans hp.symm) hled
      (hbusy 0 n.zero_le)
  case channel =>
    have hev := countCycles_ev_of_busy x hnever
    exact ⟨last_stateAt_of_no_event hr hev, hev⟩

end Sys2Proof.Machine
end

section
/-! SUPPORT. Which inputs a step reads, by phase (spec/60_exceptions.md R205, spec/30_encoding.md R73). -/

namespace Sys2Proof.Machine

variable {s : State} {i j : InputVector}

/-- A step under reset reads no other input. -/
theorem step_withInput_of_reset (hi : i.rst = true) (hj : j.rst = true) :
    step (s.withInput i) = step (s.withInput j) := by
  rw [step_of_reset (s := s.withInput i) hi, step_of_reset (s := s.withInput j) hj]
  rfl

section WithoutReset

variable (hi : i.rst = false) (hj : j.rst = false) (ha : i.btnA = j.btnA) (hb : i.btnB = j.btnB)

include hi hj ha hb

/-- A poll cycle reads `now` beside the lines: its events are the same, and they determine the rest. -/
theorem step_withInput_of_poll (hp : s.phase = .poll) (hnow : i.now = j.now) :
    step (s.withInput i) = step (s.withInput j) := by
  have hev (x : Channel) : (s.withInput i).ev x = (s.withInput j).ev x :=
    State.ev_congr rfl (hi.trans hj.symm) hnow (by cases x <;> rfl) (by cases x <;> rfl)
  rw [step_of_poll (s := s.withInput i) hp hi, step_of_poll (s := s.withInput j) hp hj]
  simp only [State.render, State.powerN, State.speedN, hev, input_withInput, hnow, ha, hb]
  rfl

/-- A wait reads its own done line beside the lines. -/
theorem Awaits.step_withInput {ph ph' : Phase} {done : InputVector → Bool} (h : Awaits ph done ph')
    (hp : s.phase = ph) (hdone : done i = done j) : step (s.withInput i) = step (s.withInput j) := by
  rw [h.step_eq (s := s.withInput i) hp hi, h.step_eq (s := s.withInput j) hp hj, input_withInput, input_withInput,
    hdone, ha, hb]
  rfl

/-- IND reads the lines alone. -/
theorem step_withInput_of_ind (hp : s.phase = .ind) : step (s.withInput i) = step (s.withInput j) := by
  rw [(indicatorUpdateTakesOneCycle (s.withInput i) hp hi).2, (indicatorUpdateTakesOneCycle (s.withInput j) hp hj).2,
    input_withInput, input_withInput, ha, hb]
  rfl

end WithoutReset

end Sys2Proof.Machine
end

section
/-! SUPPORT. Steps and the host's runs complete (spec/60_exceptions.md R200). -/

namespace Sys2Proof.Machine

theorem step_eq_nextState (s : State) : step s = .next (nextState s) := by
  rw [nextState_eq_registerTransfer, step_eq_registerTransfer]

/-- A run of the host whose first step completes goes on from the state it answers. -/
theorem core_run_succ {M : Host.Core} {n : Nat} {s t : M.State} (h : M.step s = .next t) :
    M.run (n + 1) s = M.run n t := by
  rw [Host.Core.run, h]

/-- The host's run is the run of the statements. -/
theorem core_run_eq_stateAt (n : Nat) (s : State) : core.run n s = .next (stateAt n s) := by
  induction n generalizing s with
  | zero => rfl
  | succ n ih => exact (core_run_succ (M := core) (step_eq_nextState s)).trans (ih (nextState s))

end Sys2Proof.Machine
end

section
/-! SUPPORT. The statements of spec/60_exceptions.md settled. -/

namespace Sys2Proof.Machine

/-- Settles O52: the wait is the matrix's or the panel's, and either one, unanswered, is a hang. -/
theorem unansweredRequestWaitsForEver : Obligations.UnansweredRequestWaitsForEver := by
  intro n s hr hwait
  obtain ⟨houtputs, hbusy, hchannel⟩ : (stateAt n s).outputs = s.outputs ∧ (stateAt n s).busy = true ∧
      ∀ x, (stateAt n s).last x = s.last x ∧ countCycles (State.ev x) n s = 0 := by
    obtain ⟨hp, hd⟩ | ⟨hp, hd⟩ := hwait
    · exact Awaits.matrix.hang hp hr hd
    · exact Awaits.panel.hang hp hr hd
  exact ⟨houtputs, hbusy, (hchannel .a).1, (hchannel .b).1, (hchannel .a).2, (hchannel .b).2⟩

/-- Settles O14: every operation completes, so every step does, and a run by induction on its length. -/
theorem noOperationStepOrRunStops : Obligations.NoOperationStepOrRunStops :=
  ⟨fun i s => ⟨after s i, exec_eq_after i s⟩, fun s => ⟨nextState s, step_eq_nextState s⟩, core_run_eq_stateAt⟩

/-- Settles O50, by phase: POLL reads `now`, each wait its own done line, IND nothing but the two lines. -/
theorem inputsOfAnotherPhaseAreIgnored : Obligations.InputsOfAnotherPhaseAreIgnored :=
  fun _ _ _ => ⟨step_withInput_of_reset, fun hi hj ha hb =>
    ⟨step_withInput_of_poll hi hj ha hb, Awaits.matrix.step_withInput hi hj ha hb,
      step_withInput_of_ind hi hj ha hb, Awaits.panel.step_withInput hi hj ha hb⟩⟩

end Sys2Proof.Machine
end

section
/-! SUPPORT. When a sampled line level is read (spec/70_reset_and_hazards.md R248), and what a channel reads in the
reset state (R232). -/

namespace Sys2Proof.Machine

variable {s : State} {x : Channel}

/-! ## The way of a level through the synchronizer (10_state.md R21, 40_debounce.md R101) -/

/-- Of two shifts the last flop holds the line of the first one. -/
theorem shiftIn_shiftIn_last (c : SyncChain) (line line' : Bool) :
    (shiftIn (shiftIn c line) line').getLsbD (Config.SYNC_STAGES - 1) = line :=
  (shiftIn_next (shiftIn c line) line' 0 (by decide)).trans (shiftIn_first c line)

/-- A level is read `SYNC_STAGES` cycles after the edge that samples it, whatever the phases: without reset every step
shifts. -/
theorem level_stateAt_syncStages (hr : NoReset Config.SYNC_STAGES s) :
    (stateAt Config.SYNC_STAGES s).level .a = s.input.btnA ∧
      (stateAt Config.SYNC_STAGES s).level .b = s.input.btnB := by
  have hrst : s.input.rst = false := hr 0 (by decide)
  have hrst' : (nextState s).input.rst = false := hr 1 (by decide)
  have hsyncA : (stateAt Config.SYNC_STAGES s).syncA =
      shiftIn (shiftIn s.syncA s.input.btnA) (nextState s).input.btnA := by
    simp [stateAt, nextState_syncA, hrst, hrst']
  have hsyncB : (stateAt Config.SYNC_STAGES s).syncB =
      shiftIn (shiftIn s.syncB s.input.btnB) (nextState s).input.btnB := by
    simp [stateAt, nextState_syncB, hrst, hrst']
  rw [State.level, State.level, hsyncA, hsyncB]
  exact ⟨shiftIn_shiftIn_last .., shiftIn_shiftIn_last ..⟩

/-! ## A channel that reads released -/

theorem State.ev_of_not_pressed (h : s.pressed x = false) : s.ev x = false := by
  simp [State.ev, h]

/-- The reset values of the flops are those of a released line (10_state.md R42, decision D3). -/
theorem State.pressed_reset_withInput (x : Channel) (i : InputVector) :
    (State.reset.withInput i).pressed x = false := by
  obtain ⟨-, hsa2, -, hsb2, -⟩ := resetStateHasTheSpecValues
  cases x with
  | a => exact congrArg not hsa2
  | b => exact congrArg not hsb2

end Sys2Proof.Machine
end

section
/-! SUPPORT. The statements of spec/70_reset_and_hazards.md settled. -/

namespace Sys2Proof.Machine

/-- Settles O4, by the meaning of RESET. -/
theorem resetOperationRestoresEveryElement : Obligations.ResetOperationRestoresEveryElement := fun _ => rfl

/-- Settles O5: under reset the step's one operation is RESET, and no channel is enabled. -/
theorem stepUnderResetIsResetAlone : Obligations.StepUnderResetIsResetAlone := by
  intro s h
  refine ⟨?_, State.ev_of_reset h, State.ev_of_reset h⟩
  rw [step_of_reset h, resetOperationRestoresEveryElement s]
  rfl

/-- Settles O29: the level read then is the level sampled now, and a press read with the window open in a poll cycle is
an event. -/
theorem lineLevelIsReadTwoCyclesLater : Obligations.LineLevelIsReadTwoCyclesLater := by
  intro s hr
  obtain ⟨hA, hB⟩ := level_stateAt_syncStages hr
  have hpressedA : (stateAt Config.SYNC_STAGES s).pressed .a = !s.input.btnA := by rw [State.pressed, hA]
  have hpressedB : (stateAt Config.SYNC_STAGES s).pressed .b = !s.input.btnB := by rw [State.pressed, hB]
  refine ⟨hpressedA, hpressedB, fun hline hpoll hopen => ?_, fun hline hpoll hopen => ?_⟩
  · rw [State.ev, hpoll, hpressedA, hline, hopen]; rfl
  · rw [State.ev, hpoll, hpressedB, hline, hopen]; rfl

/-- Settles O2: in the reset state both channels read released, so the input vector, through which alone an event could
come, shows nowhere. -/
theorem resetOutputsRequestNothing : Obligations.ResetOutputsRequestNothing := by
  intro i
  have hev (x : Channel) : (State.reset.withInput i).ev x = false :=
    State.ev_of_not_pressed (State.pressed_reset_withInput x i)
  have hled (k : Nat) : (State.reset.withInput i).led.getLsbD k = false := BitVec.getLsbD_zero
  rw [State.outputs_eq, hev, hev, hled, hled, hled]
  rfl

end Sys2Proof.Machine
end
